-- ==== Sys2Proof/Word.lean ====
section
/-! DEFINITION. The machine's words and the small enumerations every layer shares. -/

namespace Sys2Proof

/-- One byte of the input stream, the output stream or the history window (R61, R74). -/
abbrev Byte := BitVec 8

/-- A command word, a result word or a register image (R11, R72). -/
abbrev Word := BitVec 32

/-- The three alphabets a legal SEL field names: code-length, literal/length, distance (R15). -/
inductive Sel where
  | cl
  | ll
  | dist
  deriving DecidableEq, Repr, Inhabited

/-- What a decoded value of the DEFLATE stream is a value of: a block type, or a symbol of one of the
three alphabets (R124). -/
inductive StreamKind where
  | btype
  | cl
  | ll
  | dist
  deriving DecidableEq, Repr, Inhabited

/-- A node of a Huffman tree arena (R38).  An INTERNAL node has a child or NONE in each direction, each
child a 12-bit node index.  A LEAF holds its 9-bit alphabet index and has no children.  The SYM field of an
INTERNAL node is meaningless and never read (93_implementation_defined.md I10), so it is not held. -/
inductive Node where
  | internal (child0 child1 : Option (BitVec 12))
  | leaf (sym : BitVec 9)
  deriving DecidableEq, Repr, Inhabited

end Sys2Proof
end

