-- ==== Sys2Proof/Config.lean ====
section
/-! DEFINITION. The fixed parameters of HUFDEC (R7 to R11, R15) and the free values of the model. -/

namespace Sys2Proof.Config

/-- ASIZE: how many symbols an alphabet has (R7, R15). -/
def asize : Sel → Nat
  | .cl => 19
  | .ll => 288
  | .dist => 32

/-- The alphabet a SEL field names; SEL = 3 is reserved and names none (R15, R93). -/
def selOf (sel : BitVec 2) : Option Sel :=
  match sel.toNat with
  | 0 => some .cl
  | 1 => some .ll
  | 2 => some .dist
  | _ => none

/-- LMAX: the longest code of an alphabet, in bits (R8, R15). -/
def lmax : Sel → Nat
  | .cl => 7
  | .ll => 15
  | .dist => 15

/-- NODECAP: how many nodes an alphabet's tree arena holds (R11, R186). -/
def nodecap : Sel → Nat
  | .cl => 88
  | .ll => 2527
  | .dist => 383

/-- WSIZE: the bytes of the history window (R9). -/
def wsize : Nat := 32768

/-- FREE VALUE.  What a window byte that nothing has written since reset holds (R42, I8: any value).
No rule observes it (R233).  Notes/assumptions/2. -/
opaque windowByte : Nat → Byte

/-- FREE VALUE.  What an unused arena node, one at an index of NCNT or above, holds (R38, I9: any value).
No rule observes it.  Notes/assumptions/3. -/
opaque unusedNode : Nat → Node

end Sys2Proof.Config
end

