-- ==== Sys2Proof/Syntax.lean ====
section
/-! DEFINITION. The instructions: one constructor per row of spec/opcode_table.json (R101, R102, R124).
Command constructors carry the raw fields of the command word (R92), so that an operand out of range is a
term the machine answers with IllegalOperand (R104).  Stream constructors carry nothing: each is one decoded
value of the DEFLATE stream (R124). -/

namespace Sys2Proof

inductive Instr where
  -- Commands (R101)
  | nop
  | srst
  | brd (keep : Bool) (n : BitVec 6)
  | lwr (sel : BitVec 2) (idx : BitVec 9) (val : BitVec 4)
  | lrd (sel : BitVec 2) (idx : BitVec 9)
  | cbld (sel : BitVec 2)
  | crd (sel : BitVec 2) (idx : BitVec 9)
  | tclr (sel : BitVec 2)
  | tins (sel : BitVec 2) (sym : BitVec 9) (mk : BitVec 16)
  | tbld (sel : BitVec 2)
  | trst (sel : BitVec 2)
  | tadv (sel : BitVec 2) (bit : Bool)
  | dblk
  | dstr
  | rrd (rn : BitVec 8)
  -- The reserved opcode 0xF with its other 28 bits (R102)
  | reservedOp (low : BitVec 28)
  -- Block types (R111)
  | blockStored
  | blockFixed
  | blockDynamic
  | blockReserved
  -- Code-length symbols (R115)
  | clLen0
  | clLen1
  | clLen2
  | clLen3
  | clLen4
  | clLen5
  | clLen6
  | clLen7
  | clLen8
  | clLen9
  | clLen10
  | clLen11
  | clLen12
  | clLen13
  | clLen14
  | clLen15
  | clRep16
  | clRep17
  | clRep18
  -- Literal/length symbols (R117)
  | llLit0
  | llLit1
  | llLit2
  | llLit3
  | llLit4
  | llLit5
  | llLit6
  | llLit7
  | llLit8
  | llLit9
  | llLit10
  | llLit11
  | llLit12
  | llLit13
  | llLit14
  | llLit15
  | llLit16
  | llLit17
  | llLit18
  | llLit19
  | llLit20
  | llLit21
  | llLit22
  | llLit23
  | llLit24
  | llLit25
  | llLit26
  | llLit27
  | llLit28
  | llLit29
  | llLit30
  | llLit31
  | llLit32
  | llLit33
  | llLit34
  | llLit35
  | llLit36
  | llLit37
  | llLit38
  | llLit39
  | llLit40
  | llLit41
  | llLit42
  | llLit43
  | llLit44
  | llLit45
  | llLit46
  | llLit47
  | llLit48
  | llLit49
  | llLit50
  | llLit51
  | llLit52
  | llLit53
  | llLit54
  | llLit55
  | llLit56
  | llLit57
  | llLit58
  | llLit59
  | llLit60
  | llLit61
  | llLit62
  | llLit63
  | llLit64
  | llLit65
  | llLit66
  | llLit67
  | llLit68
  | llLit69
  | llLit70
  | llLit71
  | llLit72
  | llLit73
  | llLit74
  | llLit75
  | llLit76
  | llLit77
  | llLit78
  | llLit79
  | llLit80
  | llLit81
  | llLit82
  | llLit83
  | llLit84
  | llLit85
  | llLit86
  | llLit87
  | llLit88
  | llLit89
  | llLit90
  | llLit91
  | llLit92
  | llLit93
  | llLit94
  | llLit95
  | llLit96
  | llLit97
  | llLit98
  | llLit99
  | llLit100
  | llLit101
  | llLit102
  | llLit103
  | llLit104
  | llLit105
  | llLit106
  | llLit107
  | llLit108
  | llLit109
  | llLit110
  | llLit111
  | llLit112
  | llLit113
  | llLit114
  | llLit115
  | llLit116
  | llLit117
  | llLit118
  | llLit119
  | llLit120
  | llLit121
  | llLit122
  | llLit123
  | llLit124
  | llLit125
  | llLit126
  | llLit127
  | llLit128
  | llLit129
  | llLit130
  | llLit131
  | llLit132
  | llLit133
  | llLit134
  | llLit135
  | llLit136
  | llLit137
  | llLit138
  | llLit139
  | llLit140
  | llLit141
  | llLit142
  | llLit143
  | llLit144
  | llLit145
  | llLit146
  | llLit147
  | llLit148
  | llLit149
  | llLit150
  | llLit151
  | llLit152
  | llLit153
  | llLit154
  | llLit155
  | llLit156
  | llLit157
  | llLit158
  | llLit159
  | llLit160
  | llLit161
  | llLit162
  | llLit163
  | llLit164
  | llLit165
  | llLit166
  | llLit167
  | llLit168
  | llLit169
  | llLit170
  | llLit171
  | llLit172
  | llLit173
  | llLit174
  | llLit175
  | llLit176
  | llLit177
  | llLit178
  | llLit179
  | llLit180
  | llLit181
  | llLit182
  | llLit183
  | llLit184
  | llLit185
  | llLit186
  | llLit187
  | llLit188
  | llLit189
  | llLit190
  | llLit191
  | llLit192
  | llLit193
  | llLit194
  | llLit195
  | llLit196
  | llLit197
  | llLit198
  | llLit199
  | llLit200
  | llLit201
  | llLit202
  | llLit203
  | llLit204
  | llLit205
  | llLit206
  | llLit207
  | llLit208
  | llLit209
  | llLit210
  | llLit211
  | llLit212
  | llLit213
  | llLit214
  | llLit215
  | llLit216
  | llLit217
  | llLit218
  | llLit219
  | llLit220
  | llLit221
  | llLit222
  | llLit223
  | llLit224
  | llLit225
  | llLit226
  | llLit227
  | llLit228
  | llLit229
  | llLit230
  | llLit231
  | llLit232
  | llLit233
  | llLit234
  | llLit235
  | llLit236
  | llLit237
  | llLit238
  | llLit239
  | llLit240
  | llLit241
  | llLit242
  | llLit243
  | llLit244
  | llLit245
  | llLit246
  | llLit247
  | llLit248
  | llLit249
  | llLit250
  | llLit251
  | llLit252
  | llLit253
  | llLit254
  | llLit255
  | llEob
  | llLen257
  | llLen258
  | llLen259
  | llLen260
  | llLen261
  | llLen262
  | llLen263
  | llLen264
  | llLen265
  | llLen266
  | llLen267
  | llLen268
  | llLen269
  | llLen270
  | llLen271
  | llLen272
  | llLen273
  | llLen274
  | llLen275
  | llLen276
  | llLen277
  | llLen278
  | llLen279
  | llLen280
  | llLen281
  | llLen282
  | llLen283
  | llLen284
  | llLen285
  | llRes286
  | llRes287
  -- Distance symbols (R119)
  | distD0
  | distD1
  | distD2
  | distD3
  | distD4
  | distD5
  | distD6
  | distD7
  | distD8
  | distD9
  | distD10
  | distD11
  | distD12
  | distD13
  | distD14
  | distD15
  | distD16
  | distD17
  | distD18
  | distD19
  | distD20
  | distD21
  | distD22
  | distD23
  | distD24
  | distD25
  | distD26
  | distD27
  | distD28
  | distD29
  | distRes30
  | distRes31
  deriving DecidableEq, Repr, Inhabited

end Sys2Proof
end

