-- ==== Sys2Proof/WellFormed.lean ====
section
/-! DEFINITION. Which instructions are well formed: the operand value checks of R104, one by one. -/

namespace Sys2Proof

/-- SEL names an alphabet (R104, first check). -/
def selOk (sel : BitVec 2) : Bool := (Config.selOf sel).isSome

/-- SEL names an alphabet and IDX, or SYM, is an index of it (R94, R97, R104). -/
def indexOk (sel : BitVec 2) (idx : BitVec 9) : Bool :=
  match Config.selOf sel with
  | some k => decide (idx.toNat < Config.asize k)
  | none => false

/-- VAL does not exceed LMAX (R95, R104). -/
def lengthOk (sel : BitVec 2) (val : BitVec 4) : Bool :=
  match Config.selOf sel with
  | some k => decide (val.toNat ≤ Config.lmax k)
  | none => false

/-- MK has a marker above bit 0, and the code length it marks does not exceed LMAX (R98, R104). -/
def markerOk (sel : BitVec 2) (mk : BitVec 16) : Bool :=
  match Config.selOf sel with
  | some k => decide (2 ≤ mk.toNat) && decide (mk.toNat < 2 ^ (Config.lmax k + 1))
  | none => false

/-- An instruction every operand of which is in range (R104).  The row of opcode 0xF and the rows of the
stream have no operand to check. -/
def WellFormed : Instr → Bool
  | .nop => true
  | .srst => true
  | .brd _ n => decide (n.toNat ≤ 32)
  | .lwr sel idx val => indexOk sel idx && lengthOk sel val
  | .lrd sel idx => indexOk sel idx
  | .cbld sel => selOk sel
  | .crd sel idx => indexOk sel idx
  | .tclr sel => selOk sel
  | .tins sel sym mk => indexOk sel sym && markerOk sel mk
  | .tbld sel => selOk sel
  | .trst sel => selOk sel
  | .tadv sel _ => selOk sel
  | .dblk => true
  | .dstr => true
  | .rrd rn => decide (rn.toNat ≤ 0x16)
  | .reservedOp _ => true
  | .blockStored | .blockFixed | .blockDynamic | .blockReserved | .clLen0 | .clLen1 => true
  | .clLen2 | .clLen3 | .clLen4 | .clLen5 | .clLen6 | .clLen7 => true
  | .clLen8 | .clLen9 | .clLen10 | .clLen11 | .clLen12 | .clLen13 => true
  | .clLen14 | .clLen15 | .clRep16 | .clRep17 | .clRep18 | .llLit0 => true
  | .llLit1 | .llLit2 | .llLit3 | .llLit4 | .llLit5 | .llLit6 => true
  | .llLit7 | .llLit8 | .llLit9 | .llLit10 | .llLit11 | .llLit12 => true
  | .llLit13 | .llLit14 | .llLit15 | .llLit16 | .llLit17 | .llLit18 => true
  | .llLit19 | .llLit20 | .llLit21 | .llLit22 | .llLit23 | .llLit24 => true
  | .llLit25 | .llLit26 | .llLit27 | .llLit28 | .llLit29 | .llLit30 => true
  | .llLit31 | .llLit32 | .llLit33 | .llLit34 | .llLit35 | .llLit36 => true
  | .llLit37 | .llLit38 | .llLit39 | .llLit40 | .llLit41 | .llLit42 => true
  | .llLit43 | .llLit44 | .llLit45 | .llLit46 | .llLit47 | .llLit48 => true
  | .llLit49 | .llLit50 | .llLit51 | .llLit52 | .llLit53 | .llLit54 => true
  | .llLit55 | .llLit56 | .llLit57 | .llLit58 | .llLit59 | .llLit60 => true
  | .llLit61 | .llLit62 | .llLit63 | .llLit64 | .llLit65 | .llLit66 => true
  | .llLit67 | .llLit68 | .llLit69 | .llLit70 | .llLit71 | .llLit72 => true
  | .llLit73 | .llLit74 | .llLit75 | .llLit76 | .llLit77 | .llLit78 => true
  | .llLit79 | .llLit80 | .llLit81 | .llLit82 | .llLit83 | .llLit84 => true
  | .llLit85 | .llLit86 | .llLit87 | .llLit88 | .llLit89 | .llLit90 => true
  | .llLit91 | .llLit92 | .llLit93 | .llLit94 | .llLit95 | .llLit96 => true
  | .llLit97 | .llLit98 | .llLit99 | .llLit100 | .llLit101 | .llLit102 => true
  | .llLit103 | .llLit104 | .llLit105 | .llLit106 | .llLit107 | .llLit108 => true
  | .llLit109 | .llLit110 | .llLit111 | .llLit112 | .llLit113 | .llLit114 => true
  | .llLit115 | .llLit116 | .llLit117 | .llLit118 | .llLit119 | .llLit120 => true
  | .llLit121 | .llLit122 | .llLit123 | .llLit124 | .llLit125 | .llLit126 => true
  | .llLit127 | .llLit128 | .llLit129 | .llLit130 | .llLit131 | .llLit132 => true
  | .llLit133 | .llLit134 | .llLit135 | .llLit136 | .llLit137 | .llLit138 => true
  | .llLit139 | .llLit140 | .llLit141 | .llLit142 | .llLit143 | .llLit144 => true
  | .llLit145 | .llLit146 | .llLit147 | .llLit148 | .llLit149 | .llLit150 => true
  | .llLit151 | .llLit152 | .llLit153 | .llLit154 | .llLit155 | .llLit156 => true
  | .llLit157 | .llLit158 | .llLit159 | .llLit160 | .llLit161 | .llLit162 => true
  | .llLit163 | .llLit164 | .llLit165 | .llLit166 | .llLit167 | .llLit168 => true
  | .llLit169 | .llLit170 | .llLit171 | .llLit172 | .llLit173 | .llLit174 => true
  | .llLit175 | .llLit176 | .llLit177 | .llLit178 | .llLit179 | .llLit180 => true
  | .llLit181 | .llLit182 | .llLit183 | .llLit184 | .llLit185 | .llLit186 => true
  | .llLit187 | .llLit188 | .llLit189 | .llLit190 | .llLit191 | .llLit192 => true
  | .llLit193 | .llLit194 | .llLit195 | .llLit196 | .llLit197 | .llLit198 => true
  | .llLit199 | .llLit200 | .llLit201 | .llLit202 | .llLit203 | .llLit204 => true
  | .llLit205 | .llLit206 | .llLit207 | .llLit208 | .llLit209 | .llLit210 => true
  | .llLit211 | .llLit212 | .llLit213 | .llLit214 | .llLit215 | .llLit216 => true
  | .llLit217 | .llLit218 | .llLit219 | .llLit220 | .llLit221 | .llLit222 => true
  | .llLit223 | .llLit224 | .llLit225 | .llLit226 | .llLit227 | .llLit228 => true
  | .llLit229 | .llLit230 | .llLit231 | .llLit232 | .llLit233 | .llLit234 => true
  | .llLit235 | .llLit236 | .llLit237 | .llLit238 | .llLit239 | .llLit240 => true
  | .llLit241 | .llLit242 | .llLit243 | .llLit244 | .llLit245 | .llLit246 => true
  | .llLit247 | .llLit248 | .llLit249 | .llLit250 | .llLit251 | .llLit252 => true
  | .llLit253 | .llLit254 | .llLit255 | .llEob | .llLen257 | .llLen258 => true
  | .llLen259 | .llLen260 | .llLen261 | .llLen262 | .llLen263 | .llLen264 => true
  | .llLen265 | .llLen266 | .llLen267 | .llLen268 | .llLen269 | .llLen270 => true
  | .llLen271 | .llLen272 | .llLen273 | .llLen274 | .llLen275 | .llLen276 => true
  | .llLen277 | .llLen278 | .llLen279 | .llLen280 | .llLen281 | .llLen282 => true
  | .llLen283 | .llLen284 | .llLen285 | .llRes286 | .llRes287 | .distD0 => true
  | .distD1 | .distD2 | .distD3 | .distD4 | .distD5 | .distD6 => true
  | .distD7 | .distD8 | .distD9 | .distD10 | .distD11 | .distD12 => true
  | .distD13 | .distD14 | .distD15 | .distD16 | .distD17 | .distD18 => true
  | .distD19 | .distD20 | .distD21 | .distD22 | .distD23 | .distD24 => true
  | .distD25 | .distD26 | .distD27 | .distD28 | .distD29 | .distRes30 => true
  | .distRes31 => true

end Sys2Proof
end

