-- ==== Sys2Proof/Decode.lean ====
section
/-! DEFINITION. The decoder and the encoder.  A command is one 32-bit word (R91).  A stream instruction is one
decoded value of the DEFLATE stream, matched by value and not by wire bits (R124). -/

namespace Sys2Proof

/-- What the decoder reads: a command word, or a value the block decoder has decoded. -/
inductive Code where
  | command (w : Word)
  | symbol (kind : StreamKind) (value : BitVec 9)
  deriving DecidableEq, Repr

/-- Why a code is no instruction. -/
inductive DecodeReject where
  /-- A command word with a legal opcode and a reserved-zero bit set (R103). -/
  | reservedBits
  /-- A value outside its alphabet: a CL value above 18 (R224) or an LL value above 287 (R226). -/
  | notASymbol (kind : StreamKind)
  deriving DecidableEq, Repr

/-- The field of bits `hi` down to `lo` of a word (R13). -/
abbrev field (w : Word) (hi lo : Nat) : BitVec (hi - lo + 1) := w.extractLsb hi lo

/-- A word whose opcode is known selects the command when its masked bits are the match of the opcode map;
otherwise a reserved-zero bit is set (R101, R103). -/
def select (w mask pattern : Word) (i : Instr) : Except DecodeReject Instr :=
  if w &&& mask = pattern then .ok i else .error .reservedBits

/-- The decoding of a command word by the opcode map (R92, R101, R102). -/
def decodeCommand (w : Word) : Except DecodeReject Instr :=
  let sel := field w 27 26
  let idx := field w 24 16
  match (field w 31 28).toNat with
  | 0x0 => select w 0xFFFFFFFF 0x00000000 .nop
  | 0x1 => select w 0xFFFFFFFF 0x10000000 .srst
  | 0x2 => select w 0xFFFFFF80 0x20000000 (.brd (w.getLsbD 6) (field w 5 0))
  | 0x3 => select w 0xF200FFF0 0x30000000 (.lwr sel idx (field w 3 0))
  | 0x4 => select w 0xF200FFFF 0x40000000 (.lrd sel idx)
  | 0x5 => select w 0xF3FFFFFF 0x50000000 (.cbld sel)
  | 0x6 => select w 0xF200FFFF 0x60000000 (.crd sel idx)
  | 0x7 => select w 0xF3FFFFFF 0x70000000 (.tclr sel)
  | 0x8 => select w 0xF2000000 0x80000000 (.tins sel idx (field w 15 0))
  | 0x9 => select w 0xF3FFFFFF 0x90000000 (.tbld sel)
  | 0xA => select w 0xF3FFFFFF 0xA0000000 (.trst sel)
  | 0xB => select w 0xF3FFFFFE 0xB0000000 (.tadv sel (w.getLsbD 0))
  | 0xC => select w 0xFFFFFFFF 0xC0000000 .dblk
  | 0xD => select w 0xFFFFFFFF 0xD0000000 .dstr
  | 0xE => select w 0xFFFFFF00 0xE0000000 (.rrd (field w 7 0))
  | _ => .ok (.reservedOp (field w 27 0))

/-- The block types 0 to 3 (R111). -/
def btypeInstrs : List Instr :=
  [.blockStored, .blockFixed, .blockDynamic, .blockReserved]

/-- The code-length symbols 0 to 18 (R115). -/
def clInstrs : List Instr :=
  [.clLen0, .clLen1, .clLen2, .clLen3, .clLen4, .clLen5, .clLen6, .clLen7,
   .clLen8, .clLen9, .clLen10, .clLen11, .clLen12, .clLen13, .clLen14, .clLen15,
   .clRep16, .clRep17, .clRep18]

/-- The literal bytes 0 to 63 (R117). -/
def litInstrs0 : List Instr :=
  [.llLit0, .llLit1, .llLit2, .llLit3, .llLit4, .llLit5, .llLit6, .llLit7,
   .llLit8, .llLit9, .llLit10, .llLit11, .llLit12, .llLit13, .llLit14, .llLit15,
   .llLit16, .llLit17, .llLit18, .llLit19, .llLit20, .llLit21, .llLit22, .llLit23,
   .llLit24, .llLit25, .llLit26, .llLit27, .llLit28, .llLit29, .llLit30, .llLit31,
   .llLit32, .llLit33, .llLit34, .llLit35, .llLit36, .llLit37, .llLit38, .llLit39,
   .llLit40, .llLit41, .llLit42, .llLit43, .llLit44, .llLit45, .llLit46, .llLit47,
   .llLit48, .llLit49, .llLit50, .llLit51, .llLit52, .llLit53, .llLit54, .llLit55,
   .llLit56, .llLit57, .llLit58, .llLit59, .llLit60, .llLit61, .llLit62, .llLit63]

/-- The literal bytes 64 to 127 (R117). -/
def litInstrs1 : List Instr :=
  [.llLit64, .llLit65, .llLit66, .llLit67, .llLit68, .llLit69, .llLit70, .llLit71,
   .llLit72, .llLit73, .llLit74, .llLit75, .llLit76, .llLit77, .llLit78, .llLit79,
   .llLit80, .llLit81, .llLit82, .llLit83, .llLit84, .llLit85, .llLit86, .llLit87,
   .llLit88, .llLit89, .llLit90, .llLit91, .llLit92, .llLit93, .llLit94, .llLit95,
   .llLit96, .llLit97, .llLit98, .llLit99, .llLit100, .llLit101, .llLit102, .llLit103,
   .llLit104, .llLit105, .llLit106, .llLit107, .llLit108, .llLit109, .llLit110, .llLit111,
   .llLit112, .llLit113, .llLit114, .llLit115, .llLit116, .llLit117, .llLit118, .llLit119,
   .llLit120, .llLit121, .llLit122, .llLit123, .llLit124, .llLit125, .llLit126, .llLit127]

/-- The literal bytes 128 to 191 (R117). -/
def litInstrs2 : List Instr :=
  [.llLit128, .llLit129, .llLit130, .llLit131, .llLit132, .llLit133, .llLit134, .llLit135,
   .llLit136, .llLit137, .llLit138, .llLit139, .llLit140, .llLit141, .llLit142, .llLit143,
   .llLit144, .llLit145, .llLit146, .llLit147, .llLit148, .llLit149, .llLit150, .llLit151,
   .llLit152, .llLit153, .llLit154, .llLit155, .llLit156, .llLit157, .llLit158, .llLit159,
   .llLit160, .llLit161, .llLit162, .llLit163, .llLit164, .llLit165, .llLit166, .llLit167,
   .llLit168, .llLit169, .llLit170, .llLit171, .llLit172, .llLit173, .llLit174, .llLit175,
   .llLit176, .llLit177, .llLit178, .llLit179, .llLit180, .llLit181, .llLit182, .llLit183,
   .llLit184, .llLit185, .llLit186, .llLit187, .llLit188, .llLit189, .llLit190, .llLit191]

/-- The literal bytes 192 to 255 (R117). -/
def litInstrs3 : List Instr :=
  [.llLit192, .llLit193, .llLit194, .llLit195, .llLit196, .llLit197, .llLit198, .llLit199,
   .llLit200, .llLit201, .llLit202, .llLit203, .llLit204, .llLit205, .llLit206, .llLit207,
   .llLit208, .llLit209, .llLit210, .llLit211, .llLit212, .llLit213, .llLit214, .llLit215,
   .llLit216, .llLit217, .llLit218, .llLit219, .llLit220, .llLit221, .llLit222, .llLit223,
   .llLit224, .llLit225, .llLit226, .llLit227, .llLit228, .llLit229, .llLit230, .llLit231,
   .llLit232, .llLit233, .llLit234, .llLit235, .llLit236, .llLit237, .llLit238, .llLit239,
   .llLit240, .llLit241, .llLit242, .llLit243, .llLit244, .llLit245, .llLit246, .llLit247,
   .llLit248, .llLit249, .llLit250, .llLit251, .llLit252, .llLit253, .llLit254, .llLit255]

/-- The LL symbols 256 to 287: end of block, the length codes, and the two without a meaning (R117). -/
def endAndLengthInstrs : List Instr :=
  [.llEob, .llLen257, .llLen258, .llLen259, .llLen260, .llLen261, .llLen262, .llLen263,
   .llLen264, .llLen265, .llLen266, .llLen267, .llLen268, .llLen269, .llLen270, .llLen271,
   .llLen272, .llLen273, .llLen274, .llLen275, .llLen276, .llLen277, .llLen278, .llLen279,
   .llLen280, .llLen281, .llLen282, .llLen283, .llLen284, .llLen285, .llRes286, .llRes287]

/-- The literal/length symbols 0 to 287 (R117). -/
def llInstrs : List Instr :=
  litInstrs0 ++ (litInstrs1 ++ (litInstrs2 ++ (litInstrs3 ++ endAndLengthInstrs)))

/-- The distance symbols 0 to 31 (R119). -/
def distInstrs : List Instr :=
  [.distD0, .distD1, .distD2, .distD3, .distD4, .distD5, .distD6, .distD7,
   .distD8, .distD9, .distD10, .distD11, .distD12, .distD13, .distD14, .distD15,
   .distD16, .distD17, .distD18, .distD19, .distD20, .distD21, .distD22, .distD23,
   .distD24, .distD25, .distD26, .distD27, .distD28, .distD29, .distRes30, .distRes31]

/-- The instruction a decoded value stands for.  The masks are the widths of the decoded values: 2 bits for
BTYPE, 5 for CL and DIST, 9 for LL (R124). -/
def decodeSymbolValue (kind : StreamKind) (value : BitVec 9) : Except DecodeReject Instr :=
  let found := match kind with
    | .btype => btypeInstrs[(value &&& 0x3).toNat]?
    | .cl => clInstrs[(value &&& 0x1F).toNat]?
    | .ll => llInstrs[value.toNat]?
    | .dist => distInstrs[(value &&& 0x1F).toNat]?
  match found with
  | some i => .ok i
  | none => .error (.notASymbol kind)

/-- The decoder: total, and rejecting by name. -/
def decode : Code → Except DecodeReject Instr
  | .command w => decodeCommand w
  | .symbol kind value => decodeSymbolValue kind value

/-! ### The encoder, from the same tables (R92, R101, R124) -/

/-- Format Z: the opcode and no operand. -/
def formatZ (op : BitVec 4) : Code := .command (op ++ 0#28)

/-- Format A with the VAL field: LWR, and LRD and CRD with VAL = 0. -/
def formatA (op : BitVec 4) (sel : BitVec 2) (idx : BitVec 9) (val : BitVec 4) : Code :=
  .command (op ++ sel ++ 0#1 ++ idx ++ 0#12 ++ val)

/-- Format S: the opcode and SEL. -/
def formatS (op : BitVec 4) (sel : BitVec 2) : Code := .command (op ++ sel ++ 0#26)

/-- The code of an instruction. -/
def encode : Instr → Code
  | .nop => formatZ 0x0
  | .srst => formatZ 0x1
  | .brd keep n => .command (0x2#4 ++ 0#21 ++ BitVec.ofBool keep ++ n)
  | .lwr sel idx val => formatA 0x3 sel idx val
  | .lrd sel idx => formatA 0x4 sel idx 0
  | .cbld sel => formatS 0x5 sel
  | .crd sel idx => formatA 0x6 sel idx 0
  | .tclr sel => formatS 0x7 sel
  | .tins sel sym mk => .command (0x8#4 ++ sel ++ 0#1 ++ sym ++ mk)
  | .tbld sel => formatS 0x9 sel
  | .trst sel => formatS 0xA sel
  | .tadv sel bit => .command (0xB#4 ++ sel ++ 0#25 ++ BitVec.ofBool bit)
  | .dblk => formatZ 0xC
  | .dstr => formatZ 0xD
  | .rrd rn => .command (0xE#4 ++ 0#20 ++ rn)
  | .reservedOp low => .command (0xF#4 ++ low)
  | .blockStored => .symbol .btype 0
  | .blockFixed => .symbol .btype 1
  | .blockDynamic => .symbol .btype 2
  | .blockReserved => .symbol .btype 3
  | .clLen0 => .symbol .cl 0
  | .clLen1 => .symbol .cl 1
  | .clLen2 => .symbol .cl 2
  | .clLen3 => .symbol .cl 3
  | .clLen4 => .symbol .cl 4
  | .clLen5 => .symbol .cl 5
  | .clLen6 => .symbol .cl 6
  | .clLen7 => .symbol .cl 7
  | .clLen8 => .symbol .cl 8
  | .clLen9 => .symbol .cl 9
  | .clLen10 => .symbol .cl 10
  | .clLen11 => .symbol .cl 11
  | .clLen12 => .symbol .cl 12
  | .clLen13 => .symbol .cl 13
  | .clLen14 => .symbol .cl 14
  | .clLen15 => .symbol .cl 15
  | .clRep16 => .symbol .cl 16
  | .clRep17 => .symbol .cl 17
  | .clRep18 => .symbol .cl 18
  | .llLit0 => .symbol .ll 0
  | .llLit1 => .symbol .ll 1
  | .llLit2 => .symbol .ll 2
  | .llLit3 => .symbol .ll 3
  | .llLit4 => .symbol .ll 4
  | .llLit5 => .symbol .ll 5
  | .llLit6 => .symbol .ll 6
  | .llLit7 => .symbol .ll 7
  | .llLit8 => .symbol .ll 8
  | .llLit9 => .symbol .ll 9
  | .llLit10 => .symbol .ll 10
  | .llLit11 => .symbol .ll 11
  | .llLit12 => .symbol .ll 12
  | .llLit13 => .symbol .ll 13
  | .llLit14 => .symbol .ll 14
  | .llLit15 => .symbol .ll 15
  | .llLit16 => .symbol .ll 16
  | .llLit17 => .symbol .ll 17
  | .llLit18 => .symbol .ll 18
  | .llLit19 => .symbol .ll 19
  | .llLit20 => .symbol .ll 20
  | .llLit21 => .symbol .ll 21
  | .llLit22 => .symbol .ll 22
  | .llLit23 => .symbol .ll 23
  | .llLit24 => .symbol .ll 24
  | .llLit25 => .symbol .ll 25
  | .llLit26 => .symbol .ll 26
  | .llLit27 => .symbol .ll 27
  | .llLit28 => .symbol .ll 28
  | .llLit29 => .symbol .ll 29
  | .llLit30 => .symbol .ll 30
  | .llLit31 => .symbol .ll 31
  | .llLit32 => .symbol .ll 32
  | .llLit33 => .symbol .ll 33
  | .llLit34 => .symbol .ll 34
  | .llLit35 => .symbol .ll 35
  | .llLit36 => .symbol .ll 36
  | .llLit37 => .symbol .ll 37
  | .llLit38 => .symbol .ll 38
  | .llLit39 => .symbol .ll 39
  | .llLit40 => .symbol .ll 40
  | .llLit41 => .symbol .ll 41
  | .llLit42 => .symbol .ll 42
  | .llLit43 => .symbol .ll 43
  | .llLit44 => .symbol .ll 44
  | .llLit45 => .symbol .ll 45
  | .llLit46 => .symbol .ll 46
  | .llLit47 => .symbol .ll 47
  | .llLit48 => .symbol .ll 48
  | .llLit49 => .symbol .ll 49
  | .llLit50 => .symbol .ll 50
  | .llLit51 => .symbol .ll 51
  | .llLit52 => .symbol .ll 52
  | .llLit53 => .symbol .ll 53
  | .llLit54 => .symbol .ll 54
  | .llLit55 => .symbol .ll 55
  | .llLit56 => .symbol .ll 56
  | .llLit57 => .symbol .ll 57
  | .llLit58 => .symbol .ll 58
  | .llLit59 => .symbol .ll 59
  | .llLit60 => .symbol .ll 60
  | .llLit61 => .symbol .ll 61
  | .llLit62 => .symbol .ll 62
  | .llLit63 => .symbol .ll 63
  | .llLit64 => .symbol .ll 64
  | .llLit65 => .symbol .ll 65
  | .llLit66 => .symbol .ll 66
  | .llLit67 => .symbol .ll 67
  | .llLit68 => .symbol .ll 68
  | .llLit69 => .symbol .ll 69
  | .llLit70 => .symbol .ll 70
  | .llLit71 => .symbol .ll 71
  | .llLit72 => .symbol .ll 72
  | .llLit73 => .symbol .ll 73
  | .llLit74 => .symbol .ll 74
  | .llLit75 => .symbol .ll 75
  | .llLit76 => .symbol .ll 76
  | .llLit77 => .symbol .ll 77
  | .llLit78 => .symbol .ll 78
  | .llLit79 => .symbol .ll 79
  | .llLit80 => .symbol .ll 80
  | .llLit81 => .symbol .ll 81
  | .llLit82 => .symbol .ll 82
  | .llLit83 => .symbol .ll 83
  | .llLit84 => .symbol .ll 84
  | .llLit85 => .symbol .ll 85
  | .llLit86 => .symbol .ll 86
  | .llLit87 => .symbol .ll 87
  | .llLit88 => .symbol .ll 88
  | .llLit89 => .symbol .ll 89
  | .llLit90 => .symbol .ll 90
  | .llLit91 => .symbol .ll 91
  | .llLit92 => .symbol .ll 92
  | .llLit93 => .symbol .ll 93
  | .llLit94 => .symbol .ll 94
  | .llLit95 => .symbol .ll 95
  | .llLit96 => .symbol .ll 96
  | .llLit97 => .symbol .ll 97
  | .llLit98 => .symbol .ll 98
  | .llLit99 => .symbol .ll 99
  | .llLit100 => .symbol .ll 100
  | .llLit101 => .symbol .ll 101
  | .llLit102 => .symbol .ll 102
  | .llLit103 => .symbol .ll 103
  | .llLit104 => .symbol .ll 104
  | .llLit105 => .symbol .ll 105
  | .llLit106 => .symbol .ll 106
  | .llLit107 => .symbol .ll 107
  | .llLit108 => .symbol .ll 108
  | .llLit109 => .symbol .ll 109
  | .llLit110 => .symbol .ll 110
  | .llLit111 => .symbol .ll 111
  | .llLit112 => .symbol .ll 112
  | .llLit113 => .symbol .ll 113
  | .llLit114 => .symbol .ll 114
  | .llLit115 => .symbol .ll 115
  | .llLit116 => .symbol .ll 116
  | .llLit117 => .symbol .ll 117
  | .llLit118 => .symbol .ll 118
  | .llLit119 => .symbol .ll 119
  | .llLit120 => .symbol .ll 120
  | .llLit121 => .symbol .ll 121
  | .llLit122 => .symbol .ll 122
  | .llLit123 => .symbol .ll 123
  | .llLit124 => .symbol .ll 124
  | .llLit125 => .symbol .ll 125
  | .llLit126 => .symbol .ll 126
  | .llLit127 => .symbol .ll 127
  | .llLit128 => .symbol .ll 128
  | .llLit129 => .symbol .ll 129
  | .llLit130 => .symbol .ll 130
  | .llLit131 => .symbol .ll 131
  | .llLit132 => .symbol .ll 132
  | .llLit133 => .symbol .ll 133
  | .llLit134 => .symbol .ll 134
  | .llLit135 => .symbol .ll 135
  | .llLit136 => .symbol .ll 136
  | .llLit137 => .symbol .ll 137
  | .llLit138 => .symbol .ll 138
  | .llLit139 => .symbol .ll 139
  | .llLit140 => .symbol .ll 140
  | .llLit141 => .symbol .ll 141
  | .llLit142 => .symbol .ll 142
  | .llLit143 => .symbol .ll 143
  | .llLit144 => .symbol .ll 144
  | .llLit145 => .symbol .ll 145
  | .llLit146 => .symbol .ll 146
  | .llLit147 => .symbol .ll 147
  | .llLit148 => .symbol .ll 148
  | .llLit149 => .symbol .ll 149
  | .llLit150 => .symbol .ll 150
  | .llLit151 => .symbol .ll 151
  | .llLit152 => .symbol .ll 152
  | .llLit153 => .symbol .ll 153
  | .llLit154 => .symbol .ll 154
  | .llLit155 => .symbol .ll 155
  | .llLit156 => .symbol .ll 156
  | .llLit157 => .symbol .ll 157
  | .llLit158 => .symbol .ll 158
  | .llLit159 => .symbol .ll 159
  | .llLit160 => .symbol .ll 160
  | .llLit161 => .symbol .ll 161
  | .llLit162 => .symbol .ll 162
  | .llLit163 => .symbol .ll 163
  | .llLit164 => .symbol .ll 164
  | .llLit165 => .symbol .ll 165
  | .llLit166 => .symbol .ll 166
  | .llLit167 => .symbol .ll 167
  | .llLit168 => .symbol .ll 168
  | .llLit169 => .symbol .ll 169
  | .llLit170 => .symbol .ll 170
  | .llLit171 => .symbol .ll 171
  | .llLit172 => .symbol .ll 172
  | .llLit173 => .symbol .ll 173
  | .llLit174 => .symbol .ll 174
  | .llLit175 => .symbol .ll 175
  | .llLit176 => .symbol .ll 176
  | .llLit177 => .symbol .ll 177
  | .llLit178 => .symbol .ll 178
  | .llLit179 => .symbol .ll 179
  | .llLit180 => .symbol .ll 180
  | .llLit181 => .symbol .ll 181
  | .llLit182 => .symbol .ll 182
  | .llLit183 => .symbol .ll 183
  | .llLit184 => .symbol .ll 184
  | .llLit185 => .symbol .ll 185
  | .llLit186 => .symbol .ll 186
  | .llLit187 => .symbol .ll 187
  | .llLit188 => .symbol .ll 188
  | .llLit189 => .symbol .ll 189
  | .llLit190 => .symbol .ll 190
  | .llLit191 => .symbol .ll 191
  | .llLit192 => .symbol .ll 192
  | .llLit193 => .symbol .ll 193
  | .llLit194 => .symbol .ll 194
  | .llLit195 => .symbol .ll 195
  | .llLit196 => .symbol .ll 196
  | .llLit197 => .symbol .ll 197
  | .llLit198 => .symbol .ll 198
  | .llLit199 => .symbol .ll 199
  | .llLit200 => .symbol .ll 200
  | .llLit201 => .symbol .ll 201
  | .llLit202 => .symbol .ll 202
  | .llLit203 => .symbol .ll 203
  | .llLit204 => .symbol .ll 204
  | .llLit205 => .symbol .ll 205
  | .llLit206 => .symbol .ll 206
  | .llLit207 => .symbol .ll 207
  | .llLit208 => .symbol .ll 208
  | .llLit209 => .symbol .ll 209
  | .llLit210 => .symbol .ll 210
  | .llLit211 => .symbol .ll 211
  | .llLit212 => .symbol .ll 212
  | .llLit213 => .symbol .ll 213
  | .llLit214 => .symbol .ll 214
  | .llLit215 => .symbol .ll 215
  | .llLit216 => .symbol .ll 216
  | .llLit217 => .symbol .ll 217
  | .llLit218 => .symbol .ll 218
  | .llLit219 => .symbol .ll 219
  | .llLit220 => .symbol .ll 220
  | .llLit221 => .symbol .ll 221
  | .llLit222 => .symbol .ll 222
  | .llLit223 => .symbol .ll 223
  | .llLit224 => .symbol .ll 224
  | .llLit225 => .symbol .ll 225
  | .llLit226 => .symbol .ll 226
  | .llLit227 => .symbol .ll 227
  | .llLit228 => .symbol .ll 228
  | .llLit229 => .symbol .ll 229
  | .llLit230 => .symbol .ll 230
  | .llLit231 => .symbol .ll 231
  | .llLit232 => .symbol .ll 232
  | .llLit233 => .symbol .ll 233
  | .llLit234 => .symbol .ll 234
  | .llLit235 => .symbol .ll 235
  | .llLit236 => .symbol .ll 236
  | .llLit237 => .symbol .ll 237
  | .llLit238 => .symbol .ll 238
  | .llLit239 => .symbol .ll 239
  | .llLit240 => .symbol .ll 240
  | .llLit241 => .symbol .ll 241
  | .llLit242 => .symbol .ll 242
  | .llLit243 => .symbol .ll 243
  | .llLit244 => .symbol .ll 244
  | .llLit245 => .symbol .ll 245
  | .llLit246 => .symbol .ll 246
  | .llLit247 => .symbol .ll 247
  | .llLit248 => .symbol .ll 248
  | .llLit249 => .symbol .ll 249
  | .llLit250 => .symbol .ll 250
  | .llLit251 => .symbol .ll 251
  | .llLit252 => .symbol .ll 252
  | .llLit253 => .symbol .ll 253
  | .llLit254 => .symbol .ll 254
  | .llLit255 => .symbol .ll 255
  | .llEob => .symbol .ll 256
  | .llLen257 => .symbol .ll 257
  | .llLen258 => .symbol .ll 258
  | .llLen259 => .symbol .ll 259
  | .llLen260 => .symbol .ll 260
  | .llLen261 => .symbol .ll 261
  | .llLen262 => .symbol .ll 262
  | .llLen263 => .symbol .ll 263
  | .llLen264 => .symbol .ll 264
  | .llLen265 => .symbol .ll 265
  | .llLen266 => .symbol .ll 266
  | .llLen267 => .symbol .ll 267
  | .llLen268 => .symbol .ll 268
  | .llLen269 => .symbol .ll 269
  | .llLen270 => .symbol .ll 270
  | .llLen271 => .symbol .ll 271
  | .llLen272 => .symbol .ll 272
  | .llLen273 => .symbol .ll 273
  | .llLen274 => .symbol .ll 274
  | .llLen275 => .symbol .ll 275
  | .llLen276 => .symbol .ll 276
  | .llLen277 => .symbol .ll 277
  | .llLen278 => .symbol .ll 278
  | .llLen279 => .symbol .ll 279
  | .llLen280 => .symbol .ll 280
  | .llLen281 => .symbol .ll 281
  | .llLen282 => .symbol .ll 282
  | .llLen283 => .symbol .ll 283
  | .llLen284 => .symbol .ll 284
  | .llLen285 => .symbol .ll 285
  | .llRes286 => .symbol .ll 286
  | .llRes287 => .symbol .ll 287
  | .distD0 => .symbol .dist 0
  | .distD1 => .symbol .dist 1
  | .distD2 => .symbol .dist 2
  | .distD3 => .symbol .dist 3
  | .distD4 => .symbol .dist 4
  | .distD5 => .symbol .dist 5
  | .distD6 => .symbol .dist 6
  | .distD7 => .symbol .dist 7
  | .distD8 => .symbol .dist 8
  | .distD9 => .symbol .dist 9
  | .distD10 => .symbol .dist 10
  | .distD11 => .symbol .dist 11
  | .distD12 => .symbol .dist 12
  | .distD13 => .symbol .dist 13
  | .distD14 => .symbol .dist 14
  | .distD15 => .symbol .dist 15
  | .distD16 => .symbol .dist 16
  | .distD17 => .symbol .dist 17
  | .distD18 => .symbol .dist 18
  | .distD19 => .symbol .dist 19
  | .distD20 => .symbol .dist 20
  | .distD21 => .symbol .dist 21
  | .distD22 => .symbol .dist 22
  | .distD23 => .symbol .dist 23
  | .distD24 => .symbol .dist 24
  | .distD25 => .symbol .dist 25
  | .distD26 => .symbol .dist 26
  | .distD27 => .symbol .dist 27
  | .distD28 => .symbol .dist 28
  | .distD29 => .symbol .dist 29
  | .distRes30 => .symbol .dist 30
  | .distRes31 => .symbol .dist 31

/-! ### The table's own numbering of an instruction's bits -/

/-- The code that `nbits` bits of the opcode table stand for.  A command is a word of 32 bits.  A stream row is
a decoded value: more than 8 bits hold an LL value, at most 8 bits a DIST value.  The table does not say in the
bits whether a short value is of BTYPE, CL or DIST, since the alphabet comes from the tree that decoded it
(R124).  Notes/assumptions/9. -/
def tableCode (nbits w : Nat) : Code :=
  if 32 ≤ nbits then .command (BitVec.ofNat 32 w)
  else if 8 < nbits then .symbol .ll (BitVec.ofNat 9 w)
  else .symbol .dist (BitVec.ofNat 9 w)

/-- The instruction the decoder reads from `nbits` bits numbered as the opcode table numbers them. -/
def decodeTableWord (nbits w : Nat) : Option Instr :=
  match decode (tableCode nbits w) with
  | .ok i => some i
  | .error _ => none

end Sys2Proof
end

