-- ==== Sys2Proof/Machine/State.lean ====
section
/-! DEFINITION. The state of HUFDEC (spec/10_state.md), its reset value (R49, R311), and the reasons a step can
stop.  Everything is plain data.  The fields fall into four groups: the block's registers, arrays, trees and
window (R24 to R45); the values local to one block-decoding command (R46); the staged stream value, the model's
own; and the three ports, which the host owns (R66 to R68). -/

namespace Sys2Proof.Machine

/-- SSTATE, the session state (R24).  Value 3 is never held. -/
inductive SState where
  | ready
  | done
  | faulted
  deriving DecidableEq, Repr, Inhabited

/-- PHASE, the state of the block state machine (R35, R211). -/
inductive Phase where
  | readBlockHeader
  | readCodeLengthAlphabet
  | buildClTree
  | decodeLLAndDistLengths
  | buildLLAndDistTrees
  | decodeSymbols
  | blockDone
  deriving DecidableEq, Repr, Inhabited

/-- The status a command returns (R281). -/
inductive Status where
  | ok
  | invalidMagicOrMethod
  | unexpectedEndOfInput
  | unsupportedBlockType
  | invalidCodeLengthSymbol
  | prefixCodeViolation
  | invalidSymbolCode
  | backReferenceOutOfRange
  | codeLengthOverrun
  | illegalCommand
  | illegalOperand
  | treeCapacityExceeded
  | sessionFaulted
  | streamFinished
  deriving DecidableEq, Repr, Inhabited

/-- One entry of a code table: the bit length, 0 for a symbol absent from the tree, and the code value (R37). -/
structure CodeEntry where
  clen : BitVec 4
  cval : BitVec 24
  deriving DecidableEq, Repr, Inhabited

/-- A Huffman tree arena: the allocated nodes, node 0 the root, and the cursor CUR (R38, R40).  NCNT (R39) is the
number of allocated nodes, so it is computed and not stored; the unused nodes are not held (I9). -/
structure Tree where
  nodes : List Node
  cur : BitVec 12
  deriving DecidableEq, Repr, Inhabited

/-- A tree that holds only its root (R39, R181). -/
def Tree.empty : Tree := { nodes := [.internal none none], cur := 0 }

/-- The values that live only during one block-decoding command and must pass from one stream symbol to the next
(R46): numLLCodes, numDistCodes, numCLCodes, the count k of lengths produced, lastLength and the decoded length. -/
structure Locals where
  numLL : Nat
  numDist : Nat
  numCL : Nat
  k : Nat
  lastLength : BitVec 4
  length : Nat
  deriving DecidableEq, Repr, Inhabited

/-- The locals outside a block-decoding command: none of them holds anything (R46). -/
def Locals.idle : Locals :=
  { numLL := 0, numDist := 0, numCL := 0, k := 0, lastLength := 0, length := 0 }

/-- A decoded stream value waiting to be acted on: the model's own, none between commands.  Notes/assumptions/8. -/
structure Staged where
  kind : StreamKind
  value : BitVec 9
  deriving DecidableEq, Repr, Inhabited

/-- What the command port answers to one command: its status and its result word (R68, R105, R106). -/
structure Response where
  status : Status
  result : Word
  deriving DecidableEq, Repr, Inhabited

/-- The history window's written bytes: index and byte, indices strictly rising (R42). -/
abbrev Memory := List Host.Cell

/-- The state of HUFDEC and its ports. -/
structure State where
  -- Session and error registers (R24 to R28)
  sstate : SState
  errCode : BitVec 8
  errBlock : BitVec 32
  errPhase : BitVec 3
  errBitpos : BitVec 64
  -- Bit reader (R29 to R31)
  brAcc : BitVec 39
  brCnt : BitVec 6
  bitpos : BitVec 64
  -- Block decoder registers (R33 to R35)
  blkcnt : BitVec 32
  bhdr : BitVec 17
  phase : Phase
  -- Code-length arrays (R36)
  lenCL : Vector (BitVec 3) 19
  lenLL : Vector (BitVec 4) 288
  lenDIST : Vector (BitVec 4) 32
  -- Code tables (R37)
  codeCL : Vector CodeEntry 19
  codeLL : Vector CodeEntry 288
  codeDIST : Vector CodeEntry 32
  -- Tree arenas with their cursors (R38 to R40)
  treeCL : Tree
  treeLL : Tree
  treeDIST : Tree
  -- History window and output counter (R42 to R45)
  win : Memory
  wptr : BitVec 15
  wfill : BitVec 17
  outcnt : BitVec 64
  -- Values local to a block-decoding command (R46)
  loc : Locals
  -- The model's own staging of a decoded stream value
  staged : Option Staged
  -- The ports: words waiting on the command port, bytes the host will supply, bytes the host has accepted,
  -- and the answer to the last command (R66 to R68)
  cmds : List Word
  input : List Byte
  output : List Byte
  resp : Option Response
  deriving DecidableEq, Repr

/-- Why a step stops with a fault. -/
inductive Fault where
  /-- A loop of DBLK or DSTR outlived the bits its finite input can supply (I14: stuck).  Every loop iteration
  consumes a bit (R322), so no state raises it.  Safe: the machine makes no progress where no rule says it does. -/
  | loopOutlivedInput
  deriving DecidableEq, Repr

/-- Why a step is refused. -/
inductive Refusal where
  /-- Raised by no instruction: every row of the opcode table has its meaning.  Safe. -/
  | notModelled (mnemonic : String)
  deriving DecidableEq, Repr

/-- What a piece of a command does: it goes on with a value, it raises an error where the state is as the steps
before the error left it (R285), or it is stuck (I14). -/
inductive Res (α : Type) where
  | ok (value : α) (s : State)
  | err (e : Status) (s : State)
  | stuck

/-- Sequencing: the second piece runs where the first goes on. -/
def Res.bind {α β : Type} : Res α → (α → State → Res β) → Res β
  | .ok a s, f => f a s
  | .err e s, _ => .err e s
  | .stuck, _ => .stuck

/-- The machine right after power-on reset (R49, R311): no command waiting, no input placed, nothing put out. -/
def State.reset : State :=
  { sstate := .ready
    errCode := 0
    errBlock := 0
    errPhase := 0
    errBitpos := 0
    brAcc := 0
    brCnt := 0
    bitpos := 0
    blkcnt := 0
    bhdr := 0
    phase := .readBlockHeader
    lenCL := Vector.replicate 19 0
    lenLL := Vector.replicate 288 0
    lenDIST := Vector.replicate 32 0
    codeCL := Vector.replicate 19 { clen := 0, cval := 0 }
    codeLL := Vector.replicate 288 { clen := 0, cval := 0 }
    codeDIST := Vector.replicate 32 { clen := 0, cval := 0 }
    treeCL := Tree.empty
    treeLL := Tree.empty
    treeDIST := Tree.empty
    win := []
    wptr := 0
    wfill := 0
    outcnt := 0
    loc := Locals.idle
    staged := none
    cmds := []
    input := []
    output := []
    resp := none }

end Sys2Proof.Machine
end

