-- ==== Sys2Proof/Machine/Flags.lean ====
section
/-! DEFINITION. HUFDEC has no condition flags (R23).  What takes their place is here: the numbers of the session
states, phases and statuses, and the packing of result words (R105, R281). -/

namespace Sys2Proof.Machine

/-- The number SSTATE reads as (R24). -/
def SState.toBits : SState → BitVec 2
  | .ready => 0
  | .done => 1
  | .faulted => 2

/-- The number PHASE has (R35). -/
def Phase.toBits : Phase → BitVec 3
  | .readBlockHeader => 0
  | .readCodeLengthAlphabet => 1
  | .buildClTree => 2
  | .decodeLLAndDistLengths => 3
  | .buildLLAndDistTrees => 4
  | .decodeSymbols => 5
  | .blockDone => 6

/-- ERR_PHASE of an error raised by BRD, outside any block (R27). -/
def brdPhase : BitVec 3 := 7

/-- The status code (R281). -/
def Status.code : Status → BitVec 8
  | .ok => 0
  | .invalidMagicOrMethod => 1
  | .unexpectedEndOfInput => 2
  | .unsupportedBlockType => 3
  | .invalidCodeLengthSymbol => 4
  | .prefixCodeViolation => 5
  | .invalidSymbolCode => 6
  | .backReferenceOutOfRange => 7
  | .codeLengthOverrun => 8
  | .illegalCommand => 9
  | .illegalOperand => 10
  | .treeCapacityExceeded => 11
  | .sessionFaulted => 12
  | .streamFinished => 13

/-- The result word of CRD: CLEN in bits 27 to 24, CVAL in bits 23 to 0 (R105, R163). -/
def CodeEntry.image (e : CodeEntry) : Word := 0#4 ++ e.clen ++ e.cval

/-- What an advance of a tree's cursor gives (R190). -/
inductive Advance where
  | pending
  | symbol (sym : BitVec 9)
  | invalid
  deriving DecidableEq, Repr

/-- The result word of TADV: the kind in bits 31 and 30, the symbol in bits 8 to 0 (R105, R191). -/
def Advance.image : Advance → Word
  | .pending => 0#2 ++ 0#30
  | .symbol sym => 1#2 ++ 0#21 ++ sym
  | .invalid => 2#2 ++ 0#30

/-- What an insertion into a tree gives (R183, R184). -/
inductive Insertion where
  | inserted (t : Tree)
  | alreadyPresent
  | prefixViolation
  | capacityExceeded
  deriving DecidableEq, Repr

end Sys2Proof.Machine
end

