-- ==== Sys2Proof/Machine/Operands.lean ====
section
/-! DEFINITION. The operand forms of the commands: SEL with an index, the marker form of a code, the register
numbers; and the fixed tables the stream symbols consult (R93 to R100, R114, R118, R119). -/

namespace Sys2Proof.Machine

/-- The alphabet of SEL, when SEL is not reserved (R93, R104). -/
def selOperand (sel : BitVec 2) : Option Sel := Config.selOf sel

/-- The alphabet and the index of SEL and IDX (or SYM), when SEL is not reserved and the index is below ASIZE
(R94, R97, R104). -/
def indexOperand (sel : BitVec 2) (idx : BitVec 9) : Option (Sel × Nat) :=
  match selOperand sel with
  | some k => if idx.toNat < Config.asize k then some (k, idx.toNat) else none
  | none => none

/-- L of the marker form: the position of the most-significant set bit of MK (R98). -/
def markerLength (mk : BitVec 16) : Nat := Nat.log2 mk.toNat

/-- c of the marker form: the bits of MK below the marker (R98). -/
def markerCode (mk : BitVec 16) : Nat := mk.toNat % 2 ^ markerLength mk

/-- The code length and code value of MK, when MK marks a length from 1 to LMAX (R98, R104). -/
def markerOperand (k : Sel) (mk : BitVec 16) : Option (Nat × Nat) :=
  if mk.toNat < 2 then none
  else if Config.lmax k < markerLength mk then none
  else some (markerLength mk, markerCode mk)

/-! ### The fixed tables -/

/-- PERM, the wire order of the code-length alphabet's lengths (R114). -/
def perm : List Nat := [16, 17, 18, 0, 8, 7, 9, 6, 10, 5, 11, 4, 12, 3, 13, 2, 14, 1, 15]

/-- LENTAB: extra bits and base of the length codes 257 to 285 (R118). -/
def lengthTable : List (Nat × Nat) :=
  [(0, 3), (0, 4), (0, 5), (0, 6), (0, 7), (0, 8), (0, 9), (0, 10),
   (1, 11), (1, 13), (1, 15), (1, 17), (2, 19), (2, 23), (2, 27), (2, 31),
   (3, 35), (3, 43), (3, 51), (3, 59), (4, 67), (4, 83), (4, 99), (4, 115),
   (5, 131), (5, 163), (5, 195), (5, 227), (0, 258)]

/-- DISTTAB: extra bits and base of the distance codes 0 to 29 (R119). -/
def distanceTable : List (Nat × Nat) :=
  [(0, 1), (0, 2), (0, 3), (0, 4), (1, 5), (1, 7), (2, 9), (2, 13),
   (3, 17), (3, 25), (4, 33), (4, 49), (5, 65), (5, 97), (6, 129), (6, 193),
   (7, 257), (7, 385), (8, 513), (8, 769), (9, 1025), (9, 1537), (10, 2049), (10, 3073),
   (11, 4097), (11, 6145), (12, 8193), (12, 12289), (13, 16385), (13, 24577)]

/-! ### Arrays by alphabet -/

/-- LEN[sel][i], zero-extended to four bits (R36). -/
def State.lenAt (s : State) (k : Sel) (i : Nat) : BitVec 4 :=
  match k with
  | .cl => (s.lenCL[i]?.getD 0).setWidth 4
  | .ll => s.lenLL[i]?.getD 0
  | .dist => s.lenDIST[i]?.getD 0

/-- The code lengths of an alphabet, in symbol order (R36). -/
def State.lens (s : State) (k : Sel) : List Nat :=
  match k with
  | .cl => s.lenCL.toList.map BitVec.toNat
  | .ll => s.lenLL.toList.map BitVec.toNat
  | .dist => s.lenDIST.toList.map BitVec.toNat

/-- The code table of an alphabet, in symbol order (R37). -/
def State.codes (s : State) (k : Sel) : List CodeEntry :=
  match k with
  | .cl => s.codeCL.toList
  | .ll => s.codeLL.toList
  | .dist => s.codeDIST.toList

/-- CODE[sel][i] (R37). -/
def State.codeAt (s : State) (k : Sel) (i : Nat) : CodeEntry :=
  match k with
  | .cl => s.codeCL[i]?.getD { clen := 0, cval := 0 }
  | .ll => s.codeLL[i]?.getD { clen := 0, cval := 0 }
  | .dist => s.codeDIST[i]?.getD { clen := 0, cval := 0 }

/-- T[sel] with CUR(sel) (R38, R40). -/
def State.tree (s : State) (k : Sel) : Tree :=
  match k with
  | .cl => s.treeCL
  | .ll => s.treeLL
  | .dist => s.treeDIST

/-- NCNT: the number of allocated nodes (R39). -/
def Tree.ncnt (t : Tree) : BitVec 12 := BitVec.ofNat 12 t.nodes.length

/-! ### Registers by number -/

/-- The image of register RN, for the numbers the map defines (R47, R62). -/
def registerImage (rn : BitVec 8) (s : State) : Option Word :=
  match rn.toNat with
  | 0x00 => some (s.sstate.toBits.setWidth 32)
  | 0x01 => some (s.errCode.setWidth 32)
  | 0x02 => some s.errBlock
  | 0x03 => some (s.errPhase.setWidth 32)
  | 0x04 => some (s.errBitpos.extractLsb' 0 32)
  | 0x05 => some (s.errBitpos.extractLsb' 32 32)
  | 0x06 => some (s.bitpos.extractLsb' 0 32)
  | 0x07 => some (s.bitpos.extractLsb' 32 32)
  | 0x08 => some (s.brCnt.setWidth 32)
  | 0x09 => some (s.brAcc.extractLsb' 0 32)
  | 0x0A => some ((s.brAcc.extractLsb' 32 7).setWidth 32)
  | 0x0B => some s.blkcnt
  | 0x0C => some (s.bhdr.setWidth 32)
  | 0x0D => some (s.wfill.setWidth 32)
  | 0x0E => some (s.wptr.setWidth 32)
  | 0x0F => some (s.outcnt.extractLsb' 0 32)
  | 0x10 => some (s.outcnt.extractLsb' 32 32)
  | 0x11 => some (s.treeCL.ncnt.setWidth 32)
  | 0x12 => some (s.treeLL.ncnt.setWidth 32)
  | 0x13 => some (s.treeDIST.ncnt.setWidth 32)
  | 0x14 => some (s.treeCL.cur.setWidth 32)
  | 0x15 => some (s.treeLL.cur.setWidth 32)
  | 0x16 => some (s.treeDIST.cur.setWidth 32)
  | _ => none

end Sys2Proof.Machine
end

