-- ==== Sys2Proof/Machine/Ops.lean ====
section
/-! DEFINITION. The shared operations: answering a command, latching a stream error and starting a session (the
exception and the return from it), the bit reader, the arrays, canonical codes, the trees, and the history
window. -/

namespace Sys2Proof

/-! ### Nodes (R38) -/

/-- The child of a node in a direction: bit 0 is CHILD0, bit 1 is CHILD1.  A LEAF has none (R38, R99). -/
def Node.child : Node → Bool → Option (BitVec 12)
  | .internal c0 c1, b => if b then c1 else c0
  | .leaf _, _ => none

/-- `CHILD_b <- m` in an INTERNAL node (R182). -/
def Node.setChild : Node → Bool → BitVec 12 → Node
  | .internal c0 c1, b, m => if b then .internal c0 (some m) else .internal (some m) c1
  | .leaf sym, _, _ => .leaf sym

end Sys2Proof

namespace Sys2Proof.Machine

/-! ### Answering a command (R68, R105) -/

/-- The answer on the command port. -/
def State.respond (s : State) (status : Status) (result : Word) : State :=
  { s with resp := some { status := status, result := result } }

/-- The command ends with status OK and this result word (R105). -/
def answer (result : Word) (s : State) : Host.Outcome State Fault Refusal :=
  .next (s.respond .ok result)

/-- The command ends with this status and result 0, and latches nothing (R284, R105). -/
def refuse (e : Status) (s : State) : Host.Outcome State Fault Refusal :=
  .next (s.respond e 0)

/-! ### Raising a stream error, and the way back (R283, R289) -/

/-- `latch(code)`: the one way an error enters FAULTED.  The context registers are written, and the command ends
with the error's status and result 0 (R282, R283). -/
def latch (e : Status) (phase : BitVec 3) (s : State) : State :=
  State.respond
    { s with
      errCode := e.code
      errBlock := s.blkcnt
      errPhase := phase
      errBitpos := s.bitpos
      sstate := .faulted }
    e 0

/-- The return from a latched error is the start of a new session: every piece of state at its reset value.  The
ports are the host's and stay (R262, R289, R312). -/
def newSession (s : State) : State :=
  { State.reset with
    cmds := s.cmds
    input := s.input
    output := s.output
    resp := s.resp }

/-- The values local to a block-decoding command are replaced (R46). -/
def State.setLoc (s : State) (loc : Locals) : State := { s with loc := loc }

/-- A stream error raised inside a block: it latches with the PHASE it was raised in, and the values local to the
command are gone (R283, R46). -/
def blockError (e : Status) (s : State) : State := (latch e s.phase.toBits s).setLoc Locals.idle

/-! ### The bit reader (R141 to R150) -/

/-- The bits a host's finite input can still supply: those buffered and those not yet fetched. -/
def State.bitsLeft (s : State) : Nat := 8 * s.input.length + s.brCnt.toNat

/-- The bit reader after a top-up: whether enough bits are buffered, and the bytes not fetched. -/
structure TopUp where
  enough : Bool
  input : List Byte
  acc : BitVec 39
  cnt : BitVec 6
  deriving DecidableEq, Repr

/-- The top-up loop: one byte at a time, while fewer than `n` bits are buffered.  An empty list answers EOI
(R66, R142, R143). -/
def topUp (n : Nat) : List Byte → BitVec 39 → BitVec 6 → TopUp
  | [], acc, cnt => { enough := decide (n ≤ cnt.toNat), input := [], acc := acc, cnt := cnt }
  | b :: rest, acc, cnt =>
    if n ≤ cnt.toNat then { enough := true, input := b :: rest, acc := acc, cnt := cnt }
    else topUp n rest (acc ||| (b.setWidth 39 <<< cnt.toNat)) (cnt + 8)

/-- The state with the bit reader as a top-up left it. -/
def State.setReader (s : State) (t : TopUp) : State :=
  { s with input := t.input, brAcc := t.acc, brCnt := t.cnt }

/-- `n` buffered bits are consumed (R142, R31). -/
def State.consume (s : State) (n : Nat) : State :=
  { s with
    brAcc := s.brAcc >>> n
    brCnt := s.brCnt - BitVec.ofNat 6 n
    bitpos := s.bitpos + BitVec.ofNat 64 n }

/-- `ReadBits(n, keep)` (R142 to R144, R146). -/
def readBits (n : Nat) (keep : Bool) (s : State) : Res Nat :=
  let t := topUp n s.input s.brAcc s.brCnt
  let s1 := s.setReader t
  if t.enough then
    .ok (t.acc.toNat % 2 ^ n) (if keep then s1 else s1.consume n)
  else
    .err .unexpectedEndOfInput s1

/-! ### Code-length arrays and code tables (R36, R37) -/

/-- `LEN[sel][i] <- v` (R36).  CL entries are three bits wide. -/
def State.setLen (s : State) (k : Sel) (i : Nat) (v : BitVec 4) : State :=
  match k with
  | .cl => { s with lenCL := s.lenCL.setIfInBounds i (v.setWidth 3) }
  | .ll => { s with lenLL := s.lenLL.setIfInBounds i v }
  | .dist => { s with lenDIST := s.lenDIST.setIfInBounds i v }

/-- Every entry of LEN[sel] is cleared (R216, R218). -/
def State.clearLens (s : State) (k : Sel) : State :=
  match k with
  | .cl => { s with lenCL := Vector.replicate 19 0 }
  | .ll => { s with lenLL := Vector.replicate 288 0 }
  | .dist => { s with lenDIST := Vector.replicate 32 0 }

/-- `lenCount[L]`: how many symbols have length L, with `lenCount[0]` forced to 0 (R165, step 1). -/
def lenCount (lens : List Nat) (l : Nat) : Nat := if l = 0 then 0 else lens.count l

/-- `nextCode[l], …` for `n` lengths from `l` on, where `prev` is `nextCode[l-1]` (R165, step 2). -/
def firstCodes (lens : List Nat) : Nat → Nat → Nat → List Nat
  | 0, _, _ => []
  | n + 1, l, prev =>
    let here := (prev + lenCount lens (l - 1)) * 2
    here :: firstCodes lens n (l + 1) here

/-- `nextCode[0..15]` (R165, step 2). -/
def nextCodes (lens : List Nat) : List Nat := 0 :: firstCodes lens 15 1 0

/-- Codes are given out in increasing symbol index, each from `nextCode` of its length, which then moves on
(R165, step 3; R167). -/
def assignCodes : List Nat → List Nat → List CodeEntry
  | _, [] => []
  | next, l :: rest =>
    if l = 0 then { clen := 0, cval := 0 } :: assignCodes next rest
    else
      { clen := BitVec.ofNat 4 l, cval := BitVec.ofNat 24 (next.getD l 0) } ::
        assignCodes (next.set l (next.getD l 0 + 1)) rest

/-- The canonical code table of a length array (R165, R169). -/
def canonicalCodes (lens : List Nat) : List CodeEntry := assignCodes (nextCodes lens) lens

theorem assignCodes_length (next lens : List Nat) : (assignCodes next lens).length = lens.length := by
  induction lens generalizing next with
  | nil => rfl
  | cons l rest ih => simp only [assignCodes]; split <;> simp [ih]

/-- A list of a known length as a vector. -/
def toVector {α : Type} {n : Nat} (xs : List α) (h : xs.length = n) : Vector α n := ⟨xs.toArray, by simpa using h⟩

theorem canonicalCodes_length {n w : Nat} (v : Vector (BitVec w) n) :
    (canonicalCodes (v.toList.map BitVec.toNat)).length = n := by
  simp [canonicalCodes, assignCodes_length]

/-- `BuildCodes(sel)`: the whole of CODE[sel] is replaced by the canonical codes of LEN[sel] (R165, R169). -/
def State.buildCodes (s : State) (k : Sel) : State :=
  match k with
  | .cl => { s with codeCL := toVector (canonicalCodes (s.lens .cl)) (canonicalCodes_length s.lenCL) }
  | .ll => { s with codeLL := toVector (canonicalCodes (s.lens .ll)) (canonicalCodes_length s.lenLL) }
  | .dist => { s with codeDIST := toVector (canonicalCodes (s.lens .dist)) (canonicalCodes_length s.lenDIST) }

/-! ### Huffman trees (R181 to R195) -/

/-- The node at an index; an unused node holds a free value (R38). -/
def Tree.node (t : Tree) (n : BitVec 12) : Node := t.nodes[n.toNat]?.getD (Config.unusedNode n.toNat)

/-- The tail of `Insert`: one new node for each of the `k` code bits that remain, under node `n`, the last of them
the LEAF (R182). -/
def Tree.grow (c : Nat) (sym : BitVec 9) : Nat → BitVec 12 → Tree → Tree
  | 0, _, t => t
  | k + 1, n, t =>
    let m := t.ncnt
    let new : Node := if k = 0 then .leaf sym else .internal none none
    let nodes := t.nodes ++ [new]
    Tree.grow c sym k m
      { t with nodes := nodes.set n.toNat ((t.node n).setChild (c.testBit k) m) }

/-- The walk of `Insert` from node `n` with `k` code bits left, in an arena of `cap` nodes (R182 to R184). -/
def Tree.insertFrom (cap c : Nat) (sym : BitVec 9) : Nat → BitVec 12 → Tree → Insertion
  | 0, n, t =>
    match t.node n with
    | .leaf _ => .alreadyPresent
    | .internal _ _ => .prefixViolation
  | k + 1, n, t =>
    match t.node n with
    | .leaf _ => .prefixViolation
    | .internal c0 c1 =>
      match (Node.internal c0 c1).child (c.testBit k) with
      | some m => Tree.insertFrom cap c sym k m t
      | none =>
        if cap < t.nodes.length + (k + 1) then .capacityExceeded
        else .inserted (t.grow c sym (k + 1) n)

/-- `Insert(sel, L, c, s)`, from the root (R182). -/
def Tree.insert (cap : Nat) (t : Tree) (l c : Nat) (sym : BitVec 9) : Insertion :=
  Tree.insertFrom cap c sym l 0 t

/-- `BuildTree` after its clear, from symbol `i` on: the error that stopped the build, if one did, and the tree
with the codes inserted before it (R187). -/
def Tree.build (cap : Nat) : List CodeEntry → Nat → Tree → Option Status × Tree
  | [], _, t => (none, t)
  | e :: rest, i, t =>
    if e.clen = 0 then Tree.build cap rest (i + 1) t
    else if 2 ^ e.clen.toNat ≤ e.cval.toNat then (some .prefixCodeViolation, t)
    else
      match t.insert cap e.clen.toNat e.cval.toNat (BitVec.ofNat 9 i) with
      | .inserted t' => Tree.build cap rest (i + 1) t'
      | .capacityExceeded => (some .treeCapacityExceeded, t)
      | .alreadyPresent => (some .prefixCodeViolation, t)
      | .prefixViolation => (some .prefixCodeViolation, t)

/-- The cursor returns to the root (R189). -/
def Tree.resetCursor (t : Tree) : Tree := { t with cur := 0 }

/-- `Advance(sel, b)`: the outcome and the tree with its cursor where it rests (R190). -/
def Tree.advance (t : Tree) (b : Bool) : Advance × Tree :=
  match (t.node t.cur).child b with
  | none => (.invalid, t)
  | some c =>
    match t.node c with
    | .leaf sym => (.symbol sym, { t with cur := c })
    | .internal _ _ => (.pending, { t with cur := c })

/-- T[sel] is replaced. -/
def State.setTree (s : State) (k : Sel) (t : Tree) : State :=
  match k with
  | .cl => { s with treeCL := t }
  | .ll => { s with treeLL := t }
  | .dist => { s with treeDIST := t }

/-- `BuildTree(sel)`: T[sel] is rebuilt from CODE[sel]; a failure keeps what was inserted before it (R187). -/
def buildTree (k : Sel) (s : State) : Res Unit :=
  match Tree.build (Config.nodecap k) (s.codes k) 0 Tree.empty with
  | (none, t) => .ok () (s.setTree k t)
  | (some e, t) => .err e (s.setTree k t)

/-- The loop of `DecodeSymbol`: one bit, one advance, until a leaf or an Invalid traversal.  Each round consumes a
bit, so `fuel` above the bits left is never used up (R192). -/
def decodeBits (k : Sel) : Nat → State → Res (BitVec 9)
  | 0, _ => .stuck
  | fuel + 1, s =>
    (readBits 1 false s).bind fun b s1 =>
      match (s1.tree k).advance (b == 1) with
      | (.symbol sym, t) => .ok sym (s1.setTree k t)
      | (.pending, t) => decodeBits k fuel (s1.setTree k t)
      | (.invalid, t) => .err .invalidSymbolCode (s1.setTree k t)

/-- `DecodeSymbol(sel)` (R192). -/
def decodeSymbol (k : Sel) (s : State) : Res (BitVec 9) :=
  decodeBits k (s.bitsLeft + 1) (s.setTree k (s.tree k).resetCursor)

/-! ### The history window and the output (R42 to R45, R64, R67) -/

/-- The byte written at an index, if one was. -/
def Memory.lookup : Memory → Nat → Option Byte
  | [], _ => none
  | (a, b) :: rest, i => if i = a then some b else Memory.lookup rest i

/-- `MemRead(WIN, i, 1)`; an index nothing has written since reset holds a free value (R42). -/
def Memory.read (m : Memory) (i : Nat) : Byte := (Memory.lookup m i).getD (Config.windowByte i)

/-- `MemWrite(WIN, i, 1, v)`, which keeps the indices strictly rising. -/
def Memory.write : Memory → Nat → Byte → Memory
  | [], i, v => [(i, v)]
  | (a, b) :: rest, i, v =>
    if i < a then (i, v) :: (a, b) :: rest
    else if i = a then (i, v) :: rest
    else (a, b) :: Memory.write rest i v

/-- The canonical form: indices strictly rising, each inside the window. -/
abbrev Memory.wf (m : Memory) : Prop :=
  m.Pairwise (fun c d => c.1 < d.1) ∧ ∀ c ∈ m, c.1 < Config.wsize

/-- WFILL after one more byte: it saturates at WSIZE (R44, R234). -/
def fillNext (w : BitVec 17) : BitVec 17 := BitVec.ofNat 17 (min (w.toNat + 1) Config.wsize)

/-- `Append(b)`: one produced byte goes to the window and to the output (R234). -/
def State.append (s : State) (b : Byte) : State :=
  { s with
    win := Memory.write s.win s.wptr.toNat b
    wptr := s.wptr + 1
    wfill := fillNext s.wfill
    output := s.output ++ [b]
    outcnt := s.outcnt + 1 }

/-- The window index a distance behind the write pointer: `(WPTR - dist) mod 32768` (R64, R235). -/
def State.behind (s : State) (dist : Nat) : Nat := (s.wptr - BitVec.ofNat 15 dist).toNat

/-- The back-reference copy, one byte at a time, each appended before the next is read (R235, R78). -/
def copyBytes (dist : Nat) : Nat → State → State
  | 0, s => s
  | n + 1, s => copyBytes dist n (s.append (Memory.read s.win (s.behind dist)))

/-! ### The block registers (R33 to R35) -/

/-- PHASE is written (R35). -/
def State.setPhase (s : State) (p : Phase) : State := { s with phase := p }

/-- A field of BHDR, `n` bits from bit `lo` on, is written as soon as it is read (R34, R213, R215). -/
def State.setBhdr (s : State) (lo n v : Nat) : State :=
  let mask : BitVec 17 := BitVec.ofNat 17 (2 ^ n - 1) <<< lo
  { s with bhdr := (s.bhdr &&& ~~~mask) ||| (BitVec.ofNat 17 v <<< lo) }

/-- `BlockDone`: the block counts, and BFINAL ends the stream (R236). -/
def State.blockDone (s : State) : State :=
  { s with
    phase := .blockDone
    blkcnt := s.blkcnt + 1
    sstate := if s.bhdr.getLsbD 0 then .done else s.sstate }

end Sys2Proof.Machine
end

