-- ==== Sys2Proof/Machine/Command.lean ====
section
/-! DEFINITION. Where the next instruction comes from (R22, R68), what a code that is no instruction does (R103,
R224, R226, R287), and how one is placed to run next. -/

namespace Sys2Proof.Machine

/-- The next code to run, with the state it is taken from: the staged stream value if there is one, otherwise the
first word waiting on the command port (R68, R77).  Nothing waiting: the block is idle (R297). -/
def nextCode (s : State) : Option (Code × State) :=
  match s.staged with
  | some v => some (.symbol v.kind v.value, { s with staged := none })
  | none =>
    match s.cmds with
    | w :: rest => some (.command w, { s with cmds := rest })
    | [] => none

/-- A code that is no instruction: a reserved bit is an illegal operand that changes nothing (R103); a CL value
above 18 is InvalidCodeLengthSymbol (R224), and any other value without a meaning InvalidSymbolCode (R226, R231),
latched (R283). -/
def rejectCode : DecodeReject → State → Host.Outcome State Fault Refusal
  | .reservedBits, s => refuse .illegalOperand s
  | .notASymbol .cl, s => .next (blockError .invalidCodeLengthSymbol s)
  | .notASymbol .btype, s => .next (blockError .unsupportedBlockType s)
  | .notASymbol .ll, s => .next (blockError .invalidSymbolCode s)
  | .notASymbol .dist, s => .next (blockError .invalidSymbolCode s)

/-- A code is placed to be the next to run: a command word at the head of the command port, with no stream value
staged; a stream value staged. -/
def placeCode (s : State) : Code → State
  | .command w => { s with staged := none, cmds := w :: s.cmds }
  | .symbol kind value => { s with staged := some { kind := kind, value := value } }

end Sys2Proof.Machine
end

