-- ==== Sys2Proof/Machine/BitReader.lean ====
section
/-! DEFINITION. The bit-read command BRD (R145 to R147). -/

namespace Sys2Proof.Machine

/-- BRD: N bits of the stream, consumed unless K = 1.  The operand is checked before the session state, which
refuses only in FAULTED; an end of input latches with ERR_PHASE = 7 (R145, R147, R287). -/
def execBrd (keep : Bool) (n : BitVec 6) (s : State) : Host.Outcome State Fault Refusal :=
  if 32 < n.toNat then refuse .illegalOperand s
  else
    match s.sstate with
    | .faulted => refuse .sessionFaulted s
    | .ready | .done =>
      match readBits n.toNat keep s with
      | .ok v s1 => answer (BitVec.ofNat 32 v) s1
      | .err e s1 => .next (latch e brdPhase s1)
      | .stuck => .fault .loopOutlivedInput

end Sys2Proof.Machine
end

