-- ==== Sys2Proof/Machine/Symbols.lean ====
section
/-! DEFINITION. What a decoded value of the DEFLATE stream does: block types, code-length symbols,
literal/length symbols and distance symbols (R214 to R235).  DBLK and the stream instructions share these. -/

namespace Sys2Proof.Machine

/-! ### Block types (R214, R215) -/

/-- BTYPE 0, 1 and 3: the block is rejected (R214). -/
def rejectBlock (s : State) : Res Unit := .err .unsupportedBlockType s

/-- BTYPE 2: the three counts are read, each into its BHDR field as soon as it is read (R215). -/
def readCounts (s : State) : Res Unit :=
  (readBits 5 false (s.setPhase .readCodeLengthAlphabet)).bind fun hlit s1 =>
  (readBits 5 false (s1.setBhdr 3 5 hlit)).bind fun hdist s2 =>
  (readBits 4 false (s2.setBhdr 8 5 hdist)).bind fun hclen s3 =>
  let s4 := s3.setBhdr 13 4 hclen
  .ok () (s4.setLoc
    { s4.loc with numLL := hlit + 257, numDist := hdist + 1, numCL := hclen + 4 })

/-- The block type, by its value (R214, R215). -/
def blockType (v : Nat) (s : State) : Res Unit := if v = 2 then readCounts s else rejectBlock s

/-! ### Code-length symbols (R218 to R224) -/

/-- `Put(v)`: the next length of the sequence goes to the LL array, then to the DIST array (R116, R218). -/
def putLength (v : BitVec 4) (s : State) : State :=
  let s1 := if s.loc.k < s.loc.numLL then s.setLen .ll s.loc.k v else s.setLen .dist (s.loc.k - s.loc.numLL) v
  s1.setLoc { s1.loc with k := s1.loc.k + 1 }

/-- `Put(v)`, `n` times. -/
def putLengths (v : BitVec 4) : Nat → State → State
  | 0, s => s
  | n + 1, s => putLengths v n (putLength v s)

/-- lastLength is replaced (R219, R221, R222). -/
def setLastLength (v : BitVec 4) (s : State) : State := s.setLoc { s.loc with lastLength := v }

/-- CL symbols 0 to 15: a length, remembered as lastLength (R219). -/
def lengthValue (v : BitVec 4) (s : State) : Res Unit := .ok () (setLastLength v (putLength v s))

/-- The overrun check, and then the repeat of lastLength (R223).  Nothing of an overrunning repeat is written. -/
def repeatLast (rep : Nat) (s : State) : Res Unit :=
  if s.loc.numLL + s.loc.numDist < s.loc.k + rep then .err .codeLengthOverrun s
  else .ok () (putLengths s.loc.lastLength rep s)

/-- CL symbol 16: lastLength again, 3 + ReadBits(2) times (R220). -/
def repeatPrevious (s : State) : Res Unit :=
  (readBits 2 false s).bind fun x s1 => repeatLast (3 + x) s1

/-- CL symbols 17 and 18: `base` + ReadBits(`e`) zeros; lastLength becomes 0 (R221, R222). -/
def repeatZero (e base : Nat) (s : State) : Res Unit :=
  (readBits e false s).bind fun x s1 => repeatLast (base + x) (setLastLength 0 s1)

/-- The code-length symbol, by its value (R219 to R222); above 18 there is none (R224). -/
def clSymbol (v : Nat) (s : State) : Res Unit :=
  if v ≤ 15 then lengthValue (BitVec.ofNat 4 v) s
  else if v = 16 then repeatPrevious s
  else if v = 17 then repeatZero 3 3 s
  else if v = 18 then repeatZero 7 11 s
  else .err .invalidCodeLengthSymbol s

/-! ### Literal/length symbols (R226 to R230) -/

/-- LL symbols 0 to 255: a literal byte (R227). -/
def literal (b : Byte) (s : State) : Res Unit := .ok () (s.append b)

/-- LL symbol 256: the block's data ends, and the block goes to BlockDone (R228, R236). -/
def endOfBlock (s : State) : Res Unit := .ok () s.blockDone

/-- A length code: base + ReadBits(e) is the length of the back-reference (R229). -/
def lengthCode (e base : Nat) (s : State) : Res Unit :=
  (readBits e false s).bind fun x s1 => .ok () (s1.setLoc { s1.loc with length := base + x })

/-- A symbol without a meaning: LL 286 and 287, DIST 30 and 31 (R230, R231). -/
def noMeaning (s : State) : Res Unit := .err .invalidSymbolCode s

/-- The literal/length symbol, by its value (R226). -/
def llSymbol (v : Nat) (s : State) : Res Unit :=
  if v ≤ 255 then literal (BitVec.ofNat 8 v) s
  else if v = 256 then endOfBlock s
  else match lengthTable[v - 257]? with
    | some (e, base) => lengthCode e base s
    | none => noMeaning s

/-! ### Distance symbols (R231 to R235) -/

/-- A distance code: base + ReadBits(e) is the distance, which must not exceed the bytes produced so far; then the
copy runs for the length the length code gave (R232, R233, R235). -/
def distanceCode (e base : Nat) (s : State) : Res Unit :=
  (readBits e false s).bind fun x s1 =>
    if s1.wfill.toNat < base + x then .err .backReferenceOutOfRange s1
    else .ok () (copyBytes (base + x) s1.loc.length s1)

/-- The distance symbol, by its value (R231, R232). -/
def distSymbol (v : Nat) (s : State) : Res Unit :=
  match distanceTable[v]? with
  | some (e, base) => distanceCode e base s
  | none => noMeaning s

/-! ### A stream instruction on its own -/

/-- A stream instruction ends with its effect done, or with the block's error latched (R283). -/
def finishSymbol : Res Unit → Host.Outcome State Fault Refusal
  | .ok _ s => .next s
  | .err e s => .next (blockError e s)
  | .stuck => .fault .loopOutlivedInput

end Sys2Proof.Machine
end

