-- ==== Sys2Proof/Machine/BlockTypes.lean ====
section
/-! DEFINITION. The block types of the stream: BTYPE 0 to 3 (R214, R215). -/

namespace Sys2Proof.Machine

/-- BTYPE 0: the block is rejected (R214). -/
def execBlockStored (s : State) : Host.Outcome State Fault Refusal := finishSymbol (rejectBlock s)

/-- BTYPE 1: the block is rejected (R214). -/
def execBlockFixed (s : State) : Host.Outcome State Fault Refusal := finishSymbol (rejectBlock s)

/-- BTYPE 2: the counts HLIT, HDIST and HCLEN are read (R215). -/
def execBlockDynamic (s : State) : Host.Outcome State Fault Refusal := finishSymbol (readCounts s)

/-- BTYPE 3: the block is rejected (R214). -/
def execBlockReserved (s : State) : Host.Outcome State Fault Refusal := finishSymbol (rejectBlock s)

end Sys2Proof.Machine
end

