-- ==== Sys2Proof/Machine/Canonical.lean ====
section
/-! DEFINITION. The array and canonical-code commands LWR, LRD, CBLD and CRD (41_canonical.md).  All are legal in
every session state and none latches (R170). -/

namespace Sys2Proof.Machine

/-- LWR: one code length is written; CODE and T stay (R161). -/
def execLwr (sel : BitVec 2) (idx : BitVec 9) (val : BitVec 4) (s : State) : Host.Outcome State Fault Refusal :=
  match indexOperand sel idx with
  | none => refuse .illegalOperand s
  | some (k, i) =>
    if Config.lmax k < val.toNat then refuse .illegalOperand s
    else answer 0 (s.setLen k i val)

/-- LRD: one code length is read (R162). -/
def execLrd (sel : BitVec 2) (idx : BitVec 9) (s : State) : Host.Outcome State Fault Refusal :=
  match indexOperand sel idx with
  | none => refuse .illegalOperand s
  | some (k, i) => answer ((s.lenAt k i).setWidth 32) s

/-- CBLD: the canonical code table of LEN[SEL]; T stays (R164). -/
def execCbld (sel : BitVec 2) (s : State) : Host.Outcome State Fault Refusal :=
  match selOperand sel with
  | none => refuse .illegalOperand s
  | some k => answer 0 (s.buildCodes k)

/-- CRD: one code table entry is read (R163). -/
def execCrd (sel : BitVec 2) (idx : BitVec 9) (s : State) : Host.Outcome State Fault Refusal :=
  match indexOperand sel idx with
  | none => refuse .illegalOperand s
  | some (k, i) => answer (s.codeAt k i).image s

end Sys2Proof.Machine
end

