-- ==== Sys2Proof/Machine/CodeLengthSymbols.lean ====
section
/-! DEFINITION. The code-length symbols of the stream: CL 0 to 18 (R219 to R222). -/

namespace Sys2Proof.Machine

/-- CL symbol 0 (R219). -/
def execClLen0 (s : State) : Host.Outcome State Fault Refusal := finishSymbol (lengthValue 0 s)

/-- CL symbol 1 (R219). -/
def execClLen1 (s : State) : Host.Outcome State Fault Refusal := finishSymbol (lengthValue 1 s)

/-- CL symbol 2 (R219). -/
def execClLen2 (s : State) : Host.Outcome State Fault Refusal := finishSymbol (lengthValue 2 s)

/-- CL symbol 3 (R219). -/
def execClLen3 (s : State) : Host.Outcome State Fault Refusal := finishSymbol (lengthValue 3 s)

/-- CL symbol 4 (R219). -/
def execClLen4 (s : State) : Host.Outcome State Fault Refusal := finishSymbol (lengthValue 4 s)

/-- CL symbol 5 (R219). -/
def execClLen5 (s : State) : Host.Outcome State Fault Refusal := finishSymbol (lengthValue 5 s)

/-- CL symbol 6 (R219). -/
def execClLen6 (s : State) : Host.Outcome State Fault Refusal := finishSymbol (lengthValue 6 s)

/-- CL symbol 7 (R219). -/
def execClLen7 (s : State) : Host.Outcome State Fault Refusal := finishSymbol (lengthValue 7 s)

/-- CL symbol 8 (R219). -/
def execClLen8 (s : State) : Host.Outcome State Fault Refusal := finishSymbol (lengthValue 8 s)

/-- CL symbol 9 (R219). -/
def execClLen9 (s : State) : Host.Outcome State Fault Refusal := finishSymbol (lengthValue 9 s)

/-- CL symbol 10 (R219). -/
def execClLen10 (s : State) : Host.Outcome State Fault Refusal := finishSymbol (lengthValue 10 s)

/-- CL symbol 11 (R219). -/
def execClLen11 (s : State) : Host.Outcome State Fault Refusal := finishSymbol (lengthValue 11 s)

/-- CL symbol 12 (R219). -/
def execClLen12 (s : State) : Host.Outcome State Fault Refusal := finishSymbol (lengthValue 12 s)

/-- CL symbol 13 (R219). -/
def execClLen13 (s : State) : Host.Outcome State Fault Refusal := finishSymbol (lengthValue 13 s)

/-- CL symbol 14 (R219). -/
def execClLen14 (s : State) : Host.Outcome State Fault Refusal := finishSymbol (lengthValue 14 s)

/-- CL symbol 15 (R219). -/
def execClLen15 (s : State) : Host.Outcome State Fault Refusal := finishSymbol (lengthValue 15 s)

/-- CL symbol 16: lastLength, 3 to 6 times more (R220). -/
def execClRep16 (s : State) : Host.Outcome State Fault Refusal := finishSymbol (repeatPrevious s)

/-- CL symbol 17: 3 to 10 zeros (R221). -/
def execClRep17 (s : State) : Host.Outcome State Fault Refusal := finishSymbol (repeatZero 3 3 s)

/-- CL symbol 18: 11 to 138 zeros (R222). -/
def execClRep18 (s : State) : Host.Outcome State Fault Refusal := finishSymbol (repeatZero 7 11 s)

end Sys2Proof.Machine
end

