-- ==== Sys2Proof/Machine/Control.lean ====
section
/-! DEFINITION. The control commands NOP, SRST and RRD (44_control.md), and the reserved opcode (R102). -/

namespace Sys2Proof.Machine

/-- NOP: nothing, in every session state (R261). -/
def execNop (s : State) : Host.Outcome State Fault Refusal := answer 0 s

/-- SRST: a new session, from every session state (R262). -/
def execSrst (s : State) : Host.Outcome State Fault Refusal := answer 0 (newSession s)

/-- RRD: the image of one register; a reserved number is an illegal operand (R263, R264). -/
def execRrd (rn : BitVec 8) (s : State) : Host.Outcome State Fault Refusal :=
  match registerImage rn s with
  | some image => answer image s
  | none => refuse .illegalOperand s

/-- Opcode 0xF: IllegalCommand, whatever the other bits and the session state (R102, R286). -/
def execReservedOp (_low : BitVec 28) (s : State) : Host.Outcome State Fault Refusal := refuse .illegalCommand s

end Sys2Proof.Machine
end

