-- ==== Sys2Proof/Machine/Deflate.lean ====
section
/-! DEFINITION. The block decoder and the stream loop: DBLK and DSTR (R211 to R240).  The loops run on fuel above
the bits the input can still supply; each round consumes a bit, so the fuel is never used up (R322). -/

namespace Sys2Proof.Machine

/-- ReadBlockHeader: BFINAL and BTYPE, each into BHDR as soon as it is read; the value is BTYPE (R213). -/
def readHeader (s : State) : Res Nat :=
  (readBits 1 false ((s.setLoc Locals.idle).setPhase .readBlockHeader)).bind fun bfinal s1 =>
  (readBits 2 false (s1.setBhdr 0 1 bfinal)).bind fun btype s2 =>
  .ok btype (s2.setBhdr 1 2 btype)

/-- The CL lengths, in the order of the symbols given (R216). -/
def readClLengths : List Nat → State → Res Unit
  | [], s => .ok () s
  | sym :: rest, s =>
    (readBits 3 false s).bind fun v s1 => readClLengths rest (s1.setLen .cl sym (BitVec.ofNat 4 v))

/-- The rest of ReadCodeLengthAlphabet: LEN[CL] is cleared, and numCL lengths are scattered through PERM (R216). -/
def readClAlphabet (s : State) : Res Unit := readClLengths (perm.take s.loc.numCL) (s.clearLens .cl)

/-- BuildClTree (R217). -/
def buildClTree (s : State) : Res Unit := buildTree .cl ((s.setPhase .buildClTree).buildCodes .cl)

/-- The loop of DecodeLLAndDistLengths: CL symbols until numLL + numDist lengths have been produced (R218). -/
def lengthLoop : Nat → State → Res Unit
  | 0, _ => .stuck
  | fuel + 1, s =>
    if s.loc.k < s.loc.numLL + s.loc.numDist then
      (decodeSymbol .cl s).bind fun sym s1 =>
      (clSymbol sym.toNat s1).bind fun _ s2 => lengthLoop fuel s2
    else .ok () s

/-- The start of DecodeLLAndDistLengths: both arrays are cleared, k and lastLength are 0 (R218). -/
def startLengths (s : State) : State :=
  let s1 := ((s.setPhase .decodeLLAndDistLengths).clearLens .ll).clearLens .dist
  s1.setLoc { s1.loc with k := 0, lastLength := 0 }

/-- DecodeLLAndDistLengths (R218). -/
def decodeLengths (s : State) : Res Unit := lengthLoop (s.bitsLeft + 1) (startLengths s)

/-- BuildLLAndDistTrees: LL first (R225). -/
def buildDataTrees (s : State) : Res Unit :=
  (buildTree .ll ((s.setPhase .buildLLAndDistTrees).buildCodes .ll)).bind fun _ s1 =>
  buildTree .dist (s1.buildCodes .dist)

/-- The loop of DecodeSymbols: literals, back-references, and the end of block that leaves it (R226). -/
def dataLoop : Nat → State → Res Unit
  | 0, _ => .stuck
  | fuel + 1, s =>
    (decodeSymbol .ll s).bind fun sym s1 =>
    (llSymbol sym.toNat s1).bind fun _ s2 =>
      if sym.toNat = 256 then .ok () s2
      else if sym.toNat < 256 then dataLoop fuel s2
      else
        (decodeSymbol .dist s2).bind fun dsym s3 =>
        (distSymbol dsym.toNat s3).bind fun _ s4 => dataLoop fuel s4

/-- DecodeSymbols and, at the end of block, BlockDone (R226, R236). -/
def decodeData (s : State) : Res Unit := dataLoop (s.bitsLeft + 1) (s.setPhase .decodeSymbols)

/-- `DecodeBlock()`: the states of the block machine in their order (R211, R212). -/
def decodeBlock (s : State) : Res Unit :=
  (readHeader s).bind fun btype s1 =>
  (blockType btype s1).bind fun _ s2 =>
  (readClAlphabet s2).bind fun _ s3 =>
  (buildClTree s3).bind fun _ s4 =>
  (decodeLengths s4).bind fun _ s5 =>
  (buildDataTrees s5).bind fun _ s6 =>
  decodeData s6

/-- The stream loop: blocks while the session is READY (R237). -/
def streamLoop : Nat → State → Res Unit
  | 0, _ => .stuck
  | fuel + 1, s =>
    match s.sstate with
    | .ready => (decodeBlock s).bind fun _ s1 => streamLoop fuel s1
    | .done => .ok () s
    | .faulted => .ok () s

/-- The end of a block-decoding command: the result word the final state gives, or the latched error; the values
local to the command are gone (R46, R212, R237, R283). -/
def finishBlocks (result : State → Word) : Res Unit → Host.Outcome State Fault Refusal
  | .ok _ s => answer (result s) (s.setLoc Locals.idle)
  | .err e s => .next (blockError e s)
  | .stuck => .fault .loopOutlivedInput

/-- DBLK: one block (R212).  The session state is checked first (R287). -/
def execDblk (s : State) : Host.Outcome State Fault Refusal :=
  match s.sstate with
  | .faulted => refuse .sessionFaulted s
  | .done => refuse .streamFinished s
  | .ready => finishBlocks (fun t => t.bhdr.setWidth 32) (decodeBlock s)

/-- DSTR: blocks until the last one (R237). -/
def execDstr (s : State) : Host.Outcome State Fault Refusal :=
  match s.sstate with
  | .faulted => refuse .sessionFaulted s
  | .done => refuse .streamFinished s
  | .ready => finishBlocks (fun t => t.blkcnt) (streamLoop (s.bitsLeft + 1) s)

end Sys2Proof.Machine
end

