-- ==== Sys2Proof/Machine/DistanceSymbols.lean ====
section
/-! DEFINITION. The distance symbols of the stream: DIST 0 to 31 (R231 to R235). -/

namespace Sys2Proof.Machine

/-- DIST symbol 0: distance 1 plus 0 extra bits (R119, R232). -/
def execDistD0 (s : State) : Host.Outcome State Fault Refusal := finishSymbol (distanceCode 0 1 s)

/-- DIST symbol 1: distance 2 plus 0 extra bits (R119, R232). -/
def execDistD1 (s : State) : Host.Outcome State Fault Refusal := finishSymbol (distanceCode 0 2 s)

/-- DIST symbol 2: distance 3 plus 0 extra bits (R119, R232). -/
def execDistD2 (s : State) : Host.Outcome State Fault Refusal := finishSymbol (distanceCode 0 3 s)

/-- DIST symbol 3: distance 4 plus 0 extra bits (R119, R232). -/
def execDistD3 (s : State) : Host.Outcome State Fault Refusal := finishSymbol (distanceCode 0 4 s)

/-- DIST symbol 4: distance 5 plus 1 extra bits (R119, R232). -/
def execDistD4 (s : State) : Host.Outcome State Fault Refusal := finishSymbol (distanceCode 1 5 s)

/-- DIST symbol 5: distance 7 plus 1 extra bits (R119, R232). -/
def execDistD5 (s : State) : Host.Outcome State Fault Refusal := finishSymbol (distanceCode 1 7 s)

/-- DIST symbol 6: distance 9 plus 2 extra bits (R119, R232). -/
def execDistD6 (s : State) : Host.Outcome State Fault Refusal := finishSymbol (distanceCode 2 9 s)

/-- DIST symbol 7: distance 13 plus 2 extra bits (R119, R232). -/
def execDistD7 (s : State) : Host.Outcome State Fault Refusal := finishSymbol (distanceCode 2 13 s)

/-- DIST symbol 8: distance 17 plus 3 extra bits (R119, R232). -/
def execDistD8 (s : State) : Host.Outcome State Fault Refusal := finishSymbol (distanceCode 3 17 s)

/-- DIST symbol 9: distance 25 plus 3 extra bits (R119, R232). -/
def execDistD9 (s : State) : Host.Outcome State Fault Refusal := finishSymbol (distanceCode 3 25 s)

/-- DIST symbol 10: distance 33 plus 4 extra bits (R119, R232). -/
def execDistD10 (s : State) : Host.Outcome State Fault Refusal := finishSymbol (distanceCode 4 33 s)

/-- DIST symbol 11: distance 49 plus 4 extra bits (R119, R232). -/
def execDistD11 (s : State) : Host.Outcome State Fault Refusal := finishSymbol (distanceCode 4 49 s)

/-- DIST symbol 12: distance 65 plus 5 extra bits (R119, R232). -/
def execDistD12 (s : State) : Host.Outcome State Fault Refusal := finishSymbol (distanceCode 5 65 s)

/-- DIST symbol 13: distance 97 plus 5 extra bits (R119, R232). -/
def execDistD13 (s : State) : Host.Outcome State Fault Refusal := finishSymbol (distanceCode 5 97 s)

/-- DIST symbol 14: distance 129 plus 6 extra bits (R119, R232). -/
def execDistD14 (s : State) : Host.Outcome State Fault Refusal := finishSymbol (distanceCode 6 129 s)

/-- DIST symbol 15: distance 193 plus 6 extra bits (R119, R232). -/
def execDistD15 (s : State) : Host.Outcome State Fault Refusal := finishSymbol (distanceCode 6 193 s)

/-- DIST symbol 16: distance 257 plus 7 extra bits (R119, R232). -/
def execDistD16 (s : State) : Host.Outcome State Fault Refusal := finishSymbol (distanceCode 7 257 s)

/-- DIST symbol 17: distance 385 plus 7 extra bits (R119, R232). -/
def execDistD17 (s : State) : Host.Outcome State Fault Refusal := finishSymbol (distanceCode 7 385 s)

/-- DIST symbol 18: distance 513 plus 8 extra bits (R119, R232). -/
def execDistD18 (s : State) : Host.Outcome State Fault Refusal := finishSymbol (distanceCode 8 513 s)

/-- DIST symbol 19: distance 769 plus 8 extra bits (R119, R232). -/
def execDistD19 (s : State) : Host.Outcome State Fault Refusal := finishSymbol (distanceCode 8 769 s)

/-- DIST symbol 20: distance 1025 plus 9 extra bits (R119, R232). -/
def execDistD20 (s : State) : Host.Outcome State Fault Refusal := finishSymbol (distanceCode 9 1025 s)

/-- DIST symbol 21: distance 1537 plus 9 extra bits (R119, R232). -/
def execDistD21 (s : State) : Host.Outcome State Fault Refusal := finishSymbol (distanceCode 9 1537 s)

/-- DIST symbol 22: distance 2049 plus 10 extra bits (R119, R232). -/
def execDistD22 (s : State) : Host.Outcome State Fault Refusal := finishSymbol (distanceCode 10 2049 s)

/-- DIST symbol 23: distance 3073 plus 10 extra bits (R119, R232). -/
def execDistD23 (s : State) : Host.Outcome State Fault Refusal := finishSymbol (distanceCode 10 3073 s)

/-- DIST symbol 24: distance 4097 plus 11 extra bits (R119, R232). -/
def execDistD24 (s : State) : Host.Outcome State Fault Refusal := finishSymbol (distanceCode 11 4097 s)

/-- DIST symbol 25: distance 6145 plus 11 extra bits (R119, R232). -/
def execDistD25 (s : State) : Host.Outcome State Fault Refusal := finishSymbol (distanceCode 11 6145 s)

/-- DIST symbol 26: distance 8193 plus 12 extra bits (R119, R232). -/
def execDistD26 (s : State) : Host.Outcome State Fault Refusal := finishSymbol (distanceCode 12 8193 s)

/-- DIST symbol 27: distance 12289 plus 12 extra bits (R119, R232). -/
def execDistD27 (s : State) : Host.Outcome State Fault Refusal := finishSymbol (distanceCode 12 12289 s)

/-- DIST symbol 28: distance 16385 plus 13 extra bits (R119, R232). -/
def execDistD28 (s : State) : Host.Outcome State Fault Refusal := finishSymbol (distanceCode 13 16385 s)

/-- DIST symbol 29: distance 24577 plus 13 extra bits (R119, R232). -/
def execDistD29 (s : State) : Host.Outcome State Fault Refusal := finishSymbol (distanceCode 13 24577 s)

/-- DIST symbol 30: no meaning (R231). -/
def execDistRes30 (s : State) : Host.Outcome State Fault Refusal := finishSymbol (noMeaning s)

/-- DIST symbol 31: no meaning (R231). -/
def execDistRes31 (s : State) : Host.Outcome State Fault Refusal := finishSymbol (noMeaning s)

end Sys2Proof.Machine
end

