-- ==== Sys2Proof/Machine/LengthSymbols.lean ====
section
/-! DEFINITION. The end of block, the length codes and the two LL symbols without a meaning: LL 256 to 287 (R228 to R230). -/

namespace Sys2Proof.Machine

/-- LL symbol 256: end of block (R228, R236). -/
def execLlEob (s : State) : Host.Outcome State Fault Refusal := finishSymbol (endOfBlock s)

/-- LL symbol 257: length 3 plus 0 extra bits (R118, R229). -/
def execLlLen257 (s : State) : Host.Outcome State Fault Refusal := finishSymbol (lengthCode 0 3 s)

/-- LL symbol 258: length 4 plus 0 extra bits (R118, R229). -/
def execLlLen258 (s : State) : Host.Outcome State Fault Refusal := finishSymbol (lengthCode 0 4 s)

/-- LL symbol 259: length 5 plus 0 extra bits (R118, R229). -/
def execLlLen259 (s : State) : Host.Outcome State Fault Refusal := finishSymbol (lengthCode 0 5 s)

/-- LL symbol 260: length 6 plus 0 extra bits (R118, R229). -/
def execLlLen260 (s : State) : Host.Outcome State Fault Refusal := finishSymbol (lengthCode 0 6 s)

/-- LL symbol 261: length 7 plus 0 extra bits (R118, R229). -/
def execLlLen261 (s : State) : Host.Outcome State Fault Refusal := finishSymbol (lengthCode 0 7 s)

/-- LL symbol 262: length 8 plus 0 extra bits (R118, R229). -/
def execLlLen262 (s : State) : Host.Outcome State Fault Refusal := finishSymbol (lengthCode 0 8 s)

/-- LL symbol 263: length 9 plus 0 extra bits (R118, R229). -/
def execLlLen263 (s : State) : Host.Outcome State Fault Refusal := finishSymbol (lengthCode 0 9 s)

/-- LL symbol 264: length 10 plus 0 extra bits (R118, R229). -/
def execLlLen264 (s : State) : Host.Outcome State Fault Refusal := finishSymbol (lengthCode 0 10 s)

/-- LL symbol 265: length 11 plus 1 extra bits (R118, R229). -/
def execLlLen265 (s : State) : Host.Outcome State Fault Refusal := finishSymbol (lengthCode 1 11 s)

/-- LL symbol 266: length 13 plus 1 extra bits (R118, R229). -/
def execLlLen266 (s : State) : Host.Outcome State Fault Refusal := finishSymbol (lengthCode 1 13 s)

/-- LL symbol 267: length 15 plus 1 extra bits (R118, R229). -/
def execLlLen267 (s : State) : Host.Outcome State Fault Refusal := finishSymbol (lengthCode 1 15 s)

/-- LL symbol 268: length 17 plus 1 extra bits (R118, R229). -/
def execLlLen268 (s : State) : Host.Outcome State Fault Refusal := finishSymbol (lengthCode 1 17 s)

/-- LL symbol 269: length 19 plus 2 extra bits (R118, R229). -/
def execLlLen269 (s : State) : Host.Outcome State Fault Refusal := finishSymbol (lengthCode 2 19 s)

/-- LL symbol 270: length 23 plus 2 extra bits (R118, R229). -/
def execLlLen270 (s : State) : Host.Outcome State Fault Refusal := finishSymbol (lengthCode 2 23 s)

/-- LL symbol 271: length 27 plus 2 extra bits (R118, R229). -/
def execLlLen271 (s : State) : Host.Outcome State Fault Refusal := finishSymbol (lengthCode 2 27 s)

/-- LL symbol 272: length 31 plus 2 extra bits (R118, R229). -/
def execLlLen272 (s : State) : Host.Outcome State Fault Refusal := finishSymbol (lengthCode 2 31 s)

/-- LL symbol 273: length 35 plus 3 extra bits (R118, R229). -/
def execLlLen273 (s : State) : Host.Outcome State Fault Refusal := finishSymbol (lengthCode 3 35 s)

/-- LL symbol 274: length 43 plus 3 extra bits (R118, R229). -/
def execLlLen274 (s : State) : Host.Outcome State Fault Refusal := finishSymbol (lengthCode 3 43 s)

/-- LL symbol 275: length 51 plus 3 extra bits (R118, R229). -/
def execLlLen275 (s : State) : Host.Outcome State Fault Refusal := finishSymbol (lengthCode 3 51 s)

/-- LL symbol 276: length 59 plus 3 extra bits (R118, R229). -/
def execLlLen276 (s : State) : Host.Outcome State Fault Refusal := finishSymbol (lengthCode 3 59 s)

/-- LL symbol 277: length 67 plus 4 extra bits (R118, R229). -/
def execLlLen277 (s : State) : Host.Outcome State Fault Refusal := finishSymbol (lengthCode 4 67 s)

/-- LL symbol 278: length 83 plus 4 extra bits (R118, R229). -/
def execLlLen278 (s : State) : Host.Outcome State Fault Refusal := finishSymbol (lengthCode 4 83 s)

/-- LL symbol 279: length 99 plus 4 extra bits (R118, R229). -/
def execLlLen279 (s : State) : Host.Outcome State Fault Refusal := finishSymbol (lengthCode 4 99 s)

/-- LL symbol 280: length 115 plus 4 extra bits (R118, R229). -/
def execLlLen280 (s : State) : Host.Outcome State Fault Refusal := finishSymbol (lengthCode 4 115 s)

/-- LL symbol 281: length 131 plus 5 extra bits (R118, R229). -/
def execLlLen281 (s : State) : Host.Outcome State Fault Refusal := finishSymbol (lengthCode 5 131 s)

/-- LL symbol 282: length 163 plus 5 extra bits (R118, R229). -/
def execLlLen282 (s : State) : Host.Outcome State Fault Refusal := finishSymbol (lengthCode 5 163 s)

/-- LL symbol 283: length 195 plus 5 extra bits (R118, R229). -/
def execLlLen283 (s : State) : Host.Outcome State Fault Refusal := finishSymbol (lengthCode 5 195 s)

/-- LL symbol 284: length 227 plus 5 extra bits (R118, R229). -/
def execLlLen284 (s : State) : Host.Outcome State Fault Refusal := finishSymbol (lengthCode 5 227 s)

/-- LL symbol 285: length 258 plus 0 extra bits (R118, R229). -/
def execLlLen285 (s : State) : Host.Outcome State Fault Refusal := finishSymbol (lengthCode 0 258 s)

/-- LL symbol 286: no meaning (R230). -/
def execLlRes286 (s : State) : Host.Outcome State Fault Refusal := finishSymbol (noMeaning s)

/-- LL symbol 287: no meaning (R230). -/
def execLlRes287 (s : State) : Host.Outcome State Fault Refusal := finishSymbol (noMeaning s)

end Sys2Proof.Machine
end

