-- ==== Sys2Proof/Machine/Literals0.lean ====
section
/-! DEFINITION. The literal bytes 0 to 63 of the stream: LL symbols of the same numbers (R227). -/

namespace Sys2Proof.Machine

/-- LL symbol 0 (R227). -/
def execLlLit0 (s : State) : Host.Outcome State Fault Refusal := finishSymbol (literal 0 s)

/-- LL symbol 1 (R227). -/
def execLlLit1 (s : State) : Host.Outcome State Fault Refusal := finishSymbol (literal 1 s)

/-- LL symbol 2 (R227). -/
def execLlLit2 (s : State) : Host.Outcome State Fault Refusal := finishSymbol (literal 2 s)

/-- LL symbol 3 (R227). -/
def execLlLit3 (s : State) : Host.Outcome State Fault Refusal := finishSymbol (literal 3 s)

/-- LL symbol 4 (R227). -/
def execLlLit4 (s : State) : Host.Outcome State Fault Refusal := finishSymbol (literal 4 s)

/-- LL symbol 5 (R227). -/
def execLlLit5 (s : State) : Host.Outcome State Fault Refusal := finishSymbol (literal 5 s)

/-- LL symbol 6 (R227). -/
def execLlLit6 (s : State) : Host.Outcome State Fault Refusal := finishSymbol (literal 6 s)

/-- LL symbol 7 (R227). -/
def execLlLit7 (s : State) : Host.Outcome State Fault Refusal := finishSymbol (literal 7 s)

/-- LL symbol 8 (R227). -/
def execLlLit8 (s : State) : Host.Outcome State Fault Refusal := finishSymbol (literal 8 s)

/-- LL symbol 9 (R227). -/
def execLlLit9 (s : State) : Host.Outcome State Fault Refusal := finishSymbol (literal 9 s)

/-- LL symbol 10 (R227). -/
def execLlLit10 (s : State) : Host.Outcome State Fault Refusal := finishSymbol (literal 10 s)

/-- LL symbol 11 (R227). -/
def execLlLit11 (s : State) : Host.Outcome State Fault Refusal := finishSymbol (literal 11 s)

/-- LL symbol 12 (R227). -/
def execLlLit12 (s : State) : Host.Outcome State Fault Refusal := finishSymbol (literal 12 s)

/-- LL symbol 13 (R227). -/
def execLlLit13 (s : State) : Host.Outcome State Fault Refusal := finishSymbol (literal 13 s)

/-- LL symbol 14 (R227). -/
def execLlLit14 (s : State) : Host.Outcome State Fault Refusal := finishSymbol (literal 14 s)

/-- LL symbol 15 (R227). -/
def execLlLit15 (s : State) : Host.Outcome State Fault Refusal := finishSymbol (literal 15 s)

/-- LL symbol 16 (R227). -/
def execLlLit16 (s : State) : Host.Outcome State Fault Refusal := finishSymbol (literal 16 s)

/-- LL symbol 17 (R227). -/
def execLlLit17 (s : State) : Host.Outcome State Fault Refusal := finishSymbol (literal 17 s)

/-- LL symbol 18 (R227). -/
def execLlLit18 (s : State) : Host.Outcome State Fault Refusal := finishSymbol (literal 18 s)

/-- LL symbol 19 (R227). -/
def execLlLit19 (s : State) : Host.Outcome State Fault Refusal := finishSymbol (literal 19 s)

/-- LL symbol 20 (R227). -/
def execLlLit20 (s : State) : Host.Outcome State Fault Refusal := finishSymbol (literal 20 s)

/-- LL symbol 21 (R227). -/
def execLlLit21 (s : State) : Host.Outcome State Fault Refusal := finishSymbol (literal 21 s)

/-- LL symbol 22 (R227). -/
def execLlLit22 (s : State) : Host.Outcome State Fault Refusal := finishSymbol (literal 22 s)

/-- LL symbol 23 (R227). -/
def execLlLit23 (s : State) : Host.Outcome State Fault Refusal := finishSymbol (literal 23 s)

/-- LL symbol 24 (R227). -/
def execLlLit24 (s : State) : Host.Outcome State Fault Refusal := finishSymbol (literal 24 s)

/-- LL symbol 25 (R227). -/
def execLlLit25 (s : State) : Host.Outcome State Fault Refusal := finishSymbol (literal 25 s)

/-- LL symbol 26 (R227). -/
def execLlLit26 (s : State) : Host.Outcome State Fault Refusal := finishSymbol (literal 26 s)

/-- LL symbol 27 (R227). -/
def execLlLit27 (s : State) : Host.Outcome State Fault Refusal := finishSymbol (literal 27 s)

/-- LL symbol 28 (R227). -/
def execLlLit28 (s : State) : Host.Outcome State Fault Refusal := finishSymbol (literal 28 s)

/-- LL symbol 29 (R227). -/
def execLlLit29 (s : State) : Host.Outcome State Fault Refusal := finishSymbol (literal 29 s)

/-- LL symbol 30 (R227). -/
def execLlLit30 (s : State) : Host.Outcome State Fault Refusal := finishSymbol (literal 30 s)

/-- LL symbol 31 (R227). -/
def execLlLit31 (s : State) : Host.Outcome State Fault Refusal := finishSymbol (literal 31 s)

/-- LL symbol 32 (R227). -/
def execLlLit32 (s : State) : Host.Outcome State Fault Refusal := finishSymbol (literal 32 s)

/-- LL symbol 33 (R227). -/
def execLlLit33 (s : State) : Host.Outcome State Fault Refusal := finishSymbol (literal 33 s)

/-- LL symbol 34 (R227). -/
def execLlLit34 (s : State) : Host.Outcome State Fault Refusal := finishSymbol (literal 34 s)

/-- LL symbol 35 (R227). -/
def execLlLit35 (s : State) : Host.Outcome State Fault Refusal := finishSymbol (literal 35 s)

/-- LL symbol 36 (R227). -/
def execLlLit36 (s : State) : Host.Outcome State Fault Refusal := finishSymbol (literal 36 s)

/-- LL symbol 37 (R227). -/
def execLlLit37 (s : State) : Host.Outcome State Fault Refusal := finishSymbol (literal 37 s)

/-- LL symbol 38 (R227). -/
def execLlLit38 (s : State) : Host.Outcome State Fault Refusal := finishSymbol (literal 38 s)

/-- LL symbol 39 (R227). -/
def execLlLit39 (s : State) : Host.Outcome State Fault Refusal := finishSymbol (literal 39 s)

/-- LL symbol 40 (R227). -/
def execLlLit40 (s : State) : Host.Outcome State Fault Refusal := finishSymbol (literal 40 s)

/-- LL symbol 41 (R227). -/
def execLlLit41 (s : State) : Host.Outcome State Fault Refusal := finishSymbol (literal 41 s)

/-- LL symbol 42 (R227). -/
def execLlLit42 (s : State) : Host.Outcome State Fault Refusal := finishSymbol (literal 42 s)

/-- LL symbol 43 (R227). -/
def execLlLit43 (s : State) : Host.Outcome State Fault Refusal := finishSymbol (literal 43 s)

/-- LL symbol 44 (R227). -/
def execLlLit44 (s : State) : Host.Outcome State Fault Refusal := finishSymbol (literal 44 s)

/-- LL symbol 45 (R227). -/
def execLlLit45 (s : State) : Host.Outcome State Fault Refusal := finishSymbol (literal 45 s)

/-- LL symbol 46 (R227). -/
def execLlLit46 (s : State) : Host.Outcome State Fault Refusal := finishSymbol (literal 46 s)

/-- LL symbol 47 (R227). -/
def execLlLit47 (s : State) : Host.Outcome State Fault Refusal := finishSymbol (literal 47 s)

/-- LL symbol 48 (R227). -/
def execLlLit48 (s : State) : Host.Outcome State Fault Refusal := finishSymbol (literal 48 s)

/-- LL symbol 49 (R227). -/
def execLlLit49 (s : State) : Host.Outcome State Fault Refusal := finishSymbol (literal 49 s)

/-- LL symbol 50 (R227). -/
def execLlLit50 (s : State) : Host.Outcome State Fault Refusal := finishSymbol (literal 50 s)

/-- LL symbol 51 (R227). -/
def execLlLit51 (s : State) : Host.Outcome State Fault Refusal := finishSymbol (literal 51 s)

/-- LL symbol 52 (R227). -/
def execLlLit52 (s : State) : Host.Outcome State Fault Refusal := finishSymbol (literal 52 s)

/-- LL symbol 53 (R227). -/
def execLlLit53 (s : State) : Host.Outcome State Fault Refusal := finishSymbol (literal 53 s)

/-- LL symbol 54 (R227). -/
def execLlLit54 (s : State) : Host.Outcome State Fault Refusal := finishSymbol (literal 54 s)

/-- LL symbol 55 (R227). -/
def execLlLit55 (s : State) : Host.Outcome State Fault Refusal := finishSymbol (literal 55 s)

/-- LL symbol 56 (R227). -/
def execLlLit56 (s : State) : Host.Outcome State Fault Refusal := finishSymbol (literal 56 s)

/-- LL symbol 57 (R227). -/
def execLlLit57 (s : State) : Host.Outcome State Fault Refusal := finishSymbol (literal 57 s)

/-- LL symbol 58 (R227). -/
def execLlLit58 (s : State) : Host.Outcome State Fault Refusal := finishSymbol (literal 58 s)

/-- LL symbol 59 (R227). -/
def execLlLit59 (s : State) : Host.Outcome State Fault Refusal := finishSymbol (literal 59 s)

/-- LL symbol 60 (R227). -/
def execLlLit60 (s : State) : Host.Outcome State Fault Refusal := finishSymbol (literal 60 s)

/-- LL symbol 61 (R227). -/
def execLlLit61 (s : State) : Host.Outcome State Fault Refusal := finishSymbol (literal 61 s)

/-- LL symbol 62 (R227). -/
def execLlLit62 (s : State) : Host.Outcome State Fault Refusal := finishSymbol (literal 62 s)

/-- LL symbol 63 (R227). -/
def execLlLit63 (s : State) : Host.Outcome State Fault Refusal := finishSymbol (literal 63 s)

end Sys2Proof.Machine
end

