-- ==== Sys2Proof/Machine/Literals1.lean ====
section
/-! DEFINITION. The literal bytes 64 to 127 of the stream: LL symbols of the same numbers (R227). -/

namespace Sys2Proof.Machine

/-- LL symbol 64 (R227). -/
def execLlLit64 (s : State) : Host.Outcome State Fault Refusal := finishSymbol (literal 64 s)

/-- LL symbol 65 (R227). -/
def execLlLit65 (s : State) : Host.Outcome State Fault Refusal := finishSymbol (literal 65 s)

/-- LL symbol 66 (R227). -/
def execLlLit66 (s : State) : Host.Outcome State Fault Refusal := finishSymbol (literal 66 s)

/-- LL symbol 67 (R227). -/
def execLlLit67 (s : State) : Host.Outcome State Fault Refusal := finishSymbol (literal 67 s)

/-- LL symbol 68 (R227). -/
def execLlLit68 (s : State) : Host.Outcome State Fault Refusal := finishSymbol (literal 68 s)

/-- LL symbol 69 (R227). -/
def execLlLit69 (s : State) : Host.Outcome State Fault Refusal := finishSymbol (literal 69 s)

/-- LL symbol 70 (R227). -/
def execLlLit70 (s : State) : Host.Outcome State Fault Refusal := finishSymbol (literal 70 s)

/-- LL symbol 71 (R227). -/
def execLlLit71 (s : State) : Host.Outcome State Fault Refusal := finishSymbol (literal 71 s)

/-- LL symbol 72 (R227). -/
def execLlLit72 (s : State) : Host.Outcome State Fault Refusal := finishSymbol (literal 72 s)

/-- LL symbol 73 (R227). -/
def execLlLit73 (s : State) : Host.Outcome State Fault Refusal := finishSymbol (literal 73 s)

/-- LL symbol 74 (R227). -/
def execLlLit74 (s : State) : Host.Outcome State Fault Refusal := finishSymbol (literal 74 s)

/-- LL symbol 75 (R227). -/
def execLlLit75 (s : State) : Host.Outcome State Fault Refusal := finishSymbol (literal 75 s)

/-- LL symbol 76 (R227). -/
def execLlLit76 (s : State) : Host.Outcome State Fault Refusal := finishSymbol (literal 76 s)

/-- LL symbol 77 (R227). -/
def execLlLit77 (s : State) : Host.Outcome State Fault Refusal := finishSymbol (literal 77 s)

/-- LL symbol 78 (R227). -/
def execLlLit78 (s : State) : Host.Outcome State Fault Refusal := finishSymbol (literal 78 s)

/-- LL symbol 79 (R227). -/
def execLlLit79 (s : State) : Host.Outcome State Fault Refusal := finishSymbol (literal 79 s)

/-- LL symbol 80 (R227). -/
def execLlLit80 (s : State) : Host.Outcome State Fault Refusal := finishSymbol (literal 80 s)

/-- LL symbol 81 (R227). -/
def execLlLit81 (s : State) : Host.Outcome State Fault Refusal := finishSymbol (literal 81 s)

/-- LL symbol 82 (R227). -/
def execLlLit82 (s : State) : Host.Outcome State Fault Refusal := finishSymbol (literal 82 s)

/-- LL symbol 83 (R227). -/
def execLlLit83 (s : State) : Host.Outcome State Fault Refusal := finishSymbol (literal 83 s)

/-- LL symbol 84 (R227). -/
def execLlLit84 (s : State) : Host.Outcome State Fault Refusal := finishSymbol (literal 84 s)

/-- LL symbol 85 (R227). -/
def execLlLit85 (s : State) : Host.Outcome State Fault Refusal := finishSymbol (literal 85 s)

/-- LL symbol 86 (R227). -/
def execLlLit86 (s : State) : Host.Outcome State Fault Refusal := finishSymbol (literal 86 s)

/-- LL symbol 87 (R227). -/
def execLlLit87 (s : State) : Host.Outcome State Fault Refusal := finishSymbol (literal 87 s)

/-- LL symbol 88 (R227). -/
def execLlLit88 (s : State) : Host.Outcome State Fault Refusal := finishSymbol (literal 88 s)

/-- LL symbol 89 (R227). -/
def execLlLit89 (s : State) : Host.Outcome State Fault Refusal := finishSymbol (literal 89 s)

/-- LL symbol 90 (R227). -/
def execLlLit90 (s : State) : Host.Outcome State Fault Refusal := finishSymbol (literal 90 s)

/-- LL symbol 91 (R227). -/
def execLlLit91 (s : State) : Host.Outcome State Fault Refusal := finishSymbol (literal 91 s)

/-- LL symbol 92 (R227). -/
def execLlLit92 (s : State) : Host.Outcome State Fault Refusal := finishSymbol (literal 92 s)

/-- LL symbol 93 (R227). -/
def execLlLit93 (s : State) : Host.Outcome State Fault Refusal := finishSymbol (literal 93 s)

/-- LL symbol 94 (R227). -/
def execLlLit94 (s : State) : Host.Outcome State Fault Refusal := finishSymbol (literal 94 s)

/-- LL symbol 95 (R227). -/
def execLlLit95 (s : State) : Host.Outcome State Fault Refusal := finishSymbol (literal 95 s)

/-- LL symbol 96 (R227). -/
def execLlLit96 (s : State) : Host.Outcome State Fault Refusal := finishSymbol (literal 96 s)

/-- LL symbol 97 (R227). -/
def execLlLit97 (s : State) : Host.Outcome State Fault Refusal := finishSymbol (literal 97 s)

/-- LL symbol 98 (R227). -/
def execLlLit98 (s : State) : Host.Outcome State Fault Refusal := finishSymbol (literal 98 s)

/-- LL symbol 99 (R227). -/
def execLlLit99 (s : State) : Host.Outcome State Fault Refusal := finishSymbol (literal 99 s)

/-- LL symbol 100 (R227). -/
def execLlLit100 (s : State) : Host.Outcome State Fault Refusal := finishSymbol (literal 100 s)

/-- LL symbol 101 (R227). -/
def execLlLit101 (s : State) : Host.Outcome State Fault Refusal := finishSymbol (literal 101 s)

/-- LL symbol 102 (R227). -/
def execLlLit102 (s : State) : Host.Outcome State Fault Refusal := finishSymbol (literal 102 s)

/-- LL symbol 103 (R227). -/
def execLlLit103 (s : State) : Host.Outcome State Fault Refusal := finishSymbol (literal 103 s)

/-- LL symbol 104 (R227). -/
def execLlLit104 (s : State) : Host.Outcome State Fault Refusal := finishSymbol (literal 104 s)

/-- LL symbol 105 (R227). -/
def execLlLit105 (s : State) : Host.Outcome State Fault Refusal := finishSymbol (literal 105 s)

/-- LL symbol 106 (R227). -/
def execLlLit106 (s : State) : Host.Outcome State Fault Refusal := finishSymbol (literal 106 s)

/-- LL symbol 107 (R227). -/
def execLlLit107 (s : State) : Host.Outcome State Fault Refusal := finishSymbol (literal 107 s)

/-- LL symbol 108 (R227). -/
def execLlLit108 (s : State) : Host.Outcome State Fault Refusal := finishSymbol (literal 108 s)

/-- LL symbol 109 (R227). -/
def execLlLit109 (s : State) : Host.Outcome State Fault Refusal := finishSymbol (literal 109 s)

/-- LL symbol 110 (R227). -/
def execLlLit110 (s : State) : Host.Outcome State Fault Refusal := finishSymbol (literal 110 s)

/-- LL symbol 111 (R227). -/
def execLlLit111 (s : State) : Host.Outcome State Fault Refusal := finishSymbol (literal 111 s)

/-- LL symbol 112 (R227). -/
def execLlLit112 (s : State) : Host.Outcome State Fault Refusal := finishSymbol (literal 112 s)

/-- LL symbol 113 (R227). -/
def execLlLit113 (s : State) : Host.Outcome State Fault Refusal := finishSymbol (literal 113 s)

/-- LL symbol 114 (R227). -/
def execLlLit114 (s : State) : Host.Outcome State Fault Refusal := finishSymbol (literal 114 s)

/-- LL symbol 115 (R227). -/
def execLlLit115 (s : State) : Host.Outcome State Fault Refusal := finishSymbol (literal 115 s)

/-- LL symbol 116 (R227). -/
def execLlLit116 (s : State) : Host.Outcome State Fault Refusal := finishSymbol (literal 116 s)

/-- LL symbol 117 (R227). -/
def execLlLit117 (s : State) : Host.Outcome State Fault Refusal := finishSymbol (literal 117 s)

/-- LL symbol 118 (R227). -/
def execLlLit118 (s : State) : Host.Outcome State Fault Refusal := finishSymbol (literal 118 s)

/-- LL symbol 119 (R227). -/
def execLlLit119 (s : State) : Host.Outcome State Fault Refusal := finishSymbol (literal 119 s)

/-- LL symbol 120 (R227). -/
def execLlLit120 (s : State) : Host.Outcome State Fault Refusal := finishSymbol (literal 120 s)

/-- LL symbol 121 (R227). -/
def execLlLit121 (s : State) : Host.Outcome State Fault Refusal := finishSymbol (literal 121 s)

/-- LL symbol 122 (R227). -/
def execLlLit122 (s : State) : Host.Outcome State Fault Refusal := finishSymbol (literal 122 s)

/-- LL symbol 123 (R227). -/
def execLlLit123 (s : State) : Host.Outcome State Fault Refusal := finishSymbol (literal 123 s)

/-- LL symbol 124 (R227). -/
def execLlLit124 (s : State) : Host.Outcome State Fault Refusal := finishSymbol (literal 124 s)

/-- LL symbol 125 (R227). -/
def execLlLit125 (s : State) : Host.Outcome State Fault Refusal := finishSymbol (literal 125 s)

/-- LL symbol 126 (R227). -/
def execLlLit126 (s : State) : Host.Outcome State Fault Refusal := finishSymbol (literal 126 s)

/-- LL symbol 127 (R227). -/
def execLlLit127 (s : State) : Host.Outcome State Fault Refusal := finishSymbol (literal 127 s)

end Sys2Proof.Machine
end

