-- ==== Sys2Proof/Machine/Literals2.lean ====
section
/-! DEFINITION. The literal bytes 128 to 191 of the stream: LL symbols of the same numbers (R227). -/

namespace Sys2Proof.Machine

/-- LL symbol 128 (R227). -/
def execLlLit128 (s : State) : Host.Outcome State Fault Refusal := finishSymbol (literal 128 s)

/-- LL symbol 129 (R227). -/
def execLlLit129 (s : State) : Host.Outcome State Fault Refusal := finishSymbol (literal 129 s)

/-- LL symbol 130 (R227). -/
def execLlLit130 (s : State) : Host.Outcome State Fault Refusal := finishSymbol (literal 130 s)

/-- LL symbol 131 (R227). -/
def execLlLit131 (s : State) : Host.Outcome State Fault Refusal := finishSymbol (literal 131 s)

/-- LL symbol 132 (R227). -/
def execLlLit132 (s : State) : Host.Outcome State Fault Refusal := finishSymbol (literal 132 s)

/-- LL symbol 133 (R227). -/
def execLlLit133 (s : State) : Host.Outcome State Fault Refusal := finishSymbol (literal 133 s)

/-- LL symbol 134 (R227). -/
def execLlLit134 (s : State) : Host.Outcome State Fault Refusal := finishSymbol (literal 134 s)

/-- LL symbol 135 (R227). -/
def execLlLit135 (s : State) : Host.Outcome State Fault Refusal := finishSymbol (literal 135 s)

/-- LL symbol 136 (R227). -/
def execLlLit136 (s : State) : Host.Outcome State Fault Refusal := finishSymbol (literal 136 s)

/-- LL symbol 137 (R227). -/
def execLlLit137 (s : State) : Host.Outcome State Fault Refusal := finishSymbol (literal 137 s)

/-- LL symbol 138 (R227). -/
def execLlLit138 (s : State) : Host.Outcome State Fault Refusal := finishSymbol (literal 138 s)

/-- LL symbol 139 (R227). -/
def execLlLit139 (s : State) : Host.Outcome State Fault Refusal := finishSymbol (literal 139 s)

/-- LL symbol 140 (R227). -/
def execLlLit140 (s : State) : Host.Outcome State Fault Refusal := finishSymbol (literal 140 s)

/-- LL symbol 141 (R227). -/
def execLlLit141 (s : State) : Host.Outcome State Fault Refusal := finishSymbol (literal 141 s)

/-- LL symbol 142 (R227). -/
def execLlLit142 (s : State) : Host.Outcome State Fault Refusal := finishSymbol (literal 142 s)

/-- LL symbol 143 (R227). -/
def execLlLit143 (s : State) : Host.Outcome State Fault Refusal := finishSymbol (literal 143 s)

/-- LL symbol 144 (R227). -/
def execLlLit144 (s : State) : Host.Outcome State Fault Refusal := finishSymbol (literal 144 s)

/-- LL symbol 145 (R227). -/
def execLlLit145 (s : State) : Host.Outcome State Fault Refusal := finishSymbol (literal 145 s)

/-- LL symbol 146 (R227). -/
def execLlLit146 (s : State) : Host.Outcome State Fault Refusal := finishSymbol (literal 146 s)

/-- LL symbol 147 (R227). -/
def execLlLit147 (s : State) : Host.Outcome State Fault Refusal := finishSymbol (literal 147 s)

/-- LL symbol 148 (R227). -/
def execLlLit148 (s : State) : Host.Outcome State Fault Refusal := finishSymbol (literal 148 s)

/-- LL symbol 149 (R227). -/
def execLlLit149 (s : State) : Host.Outcome State Fault Refusal := finishSymbol (literal 149 s)

/-- LL symbol 150 (R227). -/
def execLlLit150 (s : State) : Host.Outcome State Fault Refusal := finishSymbol (literal 150 s)

/-- LL symbol 151 (R227). -/
def execLlLit151 (s : State) : Host.Outcome State Fault Refusal := finishSymbol (literal 151 s)

/-- LL symbol 152 (R227). -/
def execLlLit152 (s : State) : Host.Outcome State Fault Refusal := finishSymbol (literal 152 s)

/-- LL symbol 153 (R227). -/
def execLlLit153 (s : State) : Host.Outcome State Fault Refusal := finishSymbol (literal 153 s)

/-- LL symbol 154 (R227). -/
def execLlLit154 (s : State) : Host.Outcome State Fault Refusal := finishSymbol (literal 154 s)

/-- LL symbol 155 (R227). -/
def execLlLit155 (s : State) : Host.Outcome State Fault Refusal := finishSymbol (literal 155 s)

/-- LL symbol 156 (R227). -/
def execLlLit156 (s : State) : Host.Outcome State Fault Refusal := finishSymbol (literal 156 s)

/-- LL symbol 157 (R227). -/
def execLlLit157 (s : State) : Host.Outcome State Fault Refusal := finishSymbol (literal 157 s)

/-- LL symbol 158 (R227). -/
def execLlLit158 (s : State) : Host.Outcome State Fault Refusal := finishSymbol (literal 158 s)

/-- LL symbol 159 (R227). -/
def execLlLit159 (s : State) : Host.Outcome State Fault Refusal := finishSymbol (literal 159 s)

/-- LL symbol 160 (R227). -/
def execLlLit160 (s : State) : Host.Outcome State Fault Refusal := finishSymbol (literal 160 s)

/-- LL symbol 161 (R227). -/
def execLlLit161 (s : State) : Host.Outcome State Fault Refusal := finishSymbol (literal 161 s)

/-- LL symbol 162 (R227). -/
def execLlLit162 (s : State) : Host.Outcome State Fault Refusal := finishSymbol (literal 162 s)

/-- LL symbol 163 (R227). -/
def execLlLit163 (s : State) : Host.Outcome State Fault Refusal := finishSymbol (literal 163 s)

/-- LL symbol 164 (R227). -/
def execLlLit164 (s : State) : Host.Outcome State Fault Refusal := finishSymbol (literal 164 s)

/-- LL symbol 165 (R227). -/
def execLlLit165 (s : State) : Host.Outcome State Fault Refusal := finishSymbol (literal 165 s)

/-- LL symbol 166 (R227). -/
def execLlLit166 (s : State) : Host.Outcome State Fault Refusal := finishSymbol (literal 166 s)

/-- LL symbol 167 (R227). -/
def execLlLit167 (s : State) : Host.Outcome State Fault Refusal := finishSymbol (literal 167 s)

/-- LL symbol 168 (R227). -/
def execLlLit168 (s : State) : Host.Outcome State Fault Refusal := finishSymbol (literal 168 s)

/-- LL symbol 169 (R227). -/
def execLlLit169 (s : State) : Host.Outcome State Fault Refusal := finishSymbol (literal 169 s)

/-- LL symbol 170 (R227). -/
def execLlLit170 (s : State) : Host.Outcome State Fault Refusal := finishSymbol (literal 170 s)

/-- LL symbol 171 (R227). -/
def execLlLit171 (s : State) : Host.Outcome State Fault Refusal := finishSymbol (literal 171 s)

/-- LL symbol 172 (R227). -/
def execLlLit172 (s : State) : Host.Outcome State Fault Refusal := finishSymbol (literal 172 s)

/-- LL symbol 173 (R227). -/
def execLlLit173 (s : State) : Host.Outcome State Fault Refusal := finishSymbol (literal 173 s)

/-- LL symbol 174 (R227). -/
def execLlLit174 (s : State) : Host.Outcome State Fault Refusal := finishSymbol (literal 174 s)

/-- LL symbol 175 (R227). -/
def execLlLit175 (s : State) : Host.Outcome State Fault Refusal := finishSymbol (literal 175 s)

/-- LL symbol 176 (R227). -/
def execLlLit176 (s : State) : Host.Outcome State Fault Refusal := finishSymbol (literal 176 s)

/-- LL symbol 177 (R227). -/
def execLlLit177 (s : State) : Host.Outcome State Fault Refusal := finishSymbol (literal 177 s)

/-- LL symbol 178 (R227). -/
def execLlLit178 (s : State) : Host.Outcome State Fault Refusal := finishSymbol (literal 178 s)

/-- LL symbol 179 (R227). -/
def execLlLit179 (s : State) : Host.Outcome State Fault Refusal := finishSymbol (literal 179 s)

/-- LL symbol 180 (R227). -/
def execLlLit180 (s : State) : Host.Outcome State Fault Refusal := finishSymbol (literal 180 s)

/-- LL symbol 181 (R227). -/
def execLlLit181 (s : State) : Host.Outcome State Fault Refusal := finishSymbol (literal 181 s)

/-- LL symbol 182 (R227). -/
def execLlLit182 (s : State) : Host.Outcome State Fault Refusal := finishSymbol (literal 182 s)

/-- LL symbol 183 (R227). -/
def execLlLit183 (s : State) : Host.Outcome State Fault Refusal := finishSymbol (literal 183 s)

/-- LL symbol 184 (R227). -/
def execLlLit184 (s : State) : Host.Outcome State Fault Refusal := finishSymbol (literal 184 s)

/-- LL symbol 185 (R227). -/
def execLlLit185 (s : State) : Host.Outcome State Fault Refusal := finishSymbol (literal 185 s)

/-- LL symbol 186 (R227). -/
def execLlLit186 (s : State) : Host.Outcome State Fault Refusal := finishSymbol (literal 186 s)

/-- LL symbol 187 (R227). -/
def execLlLit187 (s : State) : Host.Outcome State Fault Refusal := finishSymbol (literal 187 s)

/-- LL symbol 188 (R227). -/
def execLlLit188 (s : State) : Host.Outcome State Fault Refusal := finishSymbol (literal 188 s)

/-- LL symbol 189 (R227). -/
def execLlLit189 (s : State) : Host.Outcome State Fault Refusal := finishSymbol (literal 189 s)

/-- LL symbol 190 (R227). -/
def execLlLit190 (s : State) : Host.Outcome State Fault Refusal := finishSymbol (literal 190 s)

/-- LL symbol 191 (R227). -/
def execLlLit191 (s : State) : Host.Outcome State Fault Refusal := finishSymbol (literal 191 s)

end Sys2Proof.Machine
end

