-- ==== Sys2Proof/Machine/Literals3.lean ====
section
/-! DEFINITION. The literal bytes 192 to 255 of the stream: LL symbols of the same numbers (R227). -/

namespace Sys2Proof.Machine

/-- LL symbol 192 (R227). -/
def execLlLit192 (s : State) : Host.Outcome State Fault Refusal := finishSymbol (literal 192 s)

/-- LL symbol 193 (R227). -/
def execLlLit193 (s : State) : Host.Outcome State Fault Refusal := finishSymbol (literal 193 s)

/-- LL symbol 194 (R227). -/
def execLlLit194 (s : State) : Host.Outcome State Fault Refusal := finishSymbol (literal 194 s)

/-- LL symbol 195 (R227). -/
def execLlLit195 (s : State) : Host.Outcome State Fault Refusal := finishSymbol (literal 195 s)

/-- LL symbol 196 (R227). -/
def execLlLit196 (s : State) : Host.Outcome State Fault Refusal := finishSymbol (literal 196 s)

/-- LL symbol 197 (R227). -/
def execLlLit197 (s : State) : Host.Outcome State Fault Refusal := finishSymbol (literal 197 s)

/-- LL symbol 198 (R227). -/
def execLlLit198 (s : State) : Host.Outcome State Fault Refusal := finishSymbol (literal 198 s)

/-- LL symbol 199 (R227). -/
def execLlLit199 (s : State) : Host.Outcome State Fault Refusal := finishSymbol (literal 199 s)

/-- LL symbol 200 (R227). -/
def execLlLit200 (s : State) : Host.Outcome State Fault Refusal := finishSymbol (literal 200 s)

/-- LL symbol 201 (R227). -/
def execLlLit201 (s : State) : Host.Outcome State Fault Refusal := finishSymbol (literal 201 s)

/-- LL symbol 202 (R227). -/
def execLlLit202 (s : State) : Host.Outcome State Fault Refusal := finishSymbol (literal 202 s)

/-- LL symbol 203 (R227). -/
def execLlLit203 (s : State) : Host.Outcome State Fault Refusal := finishSymbol (literal 203 s)

/-- LL symbol 204 (R227). -/
def execLlLit204 (s : State) : Host.Outcome State Fault Refusal := finishSymbol (literal 204 s)

/-- LL symbol 205 (R227). -/
def execLlLit205 (s : State) : Host.Outcome State Fault Refusal := finishSymbol (literal 205 s)

/-- LL symbol 206 (R227). -/
def execLlLit206 (s : State) : Host.Outcome State Fault Refusal := finishSymbol (literal 206 s)

/-- LL symbol 207 (R227). -/
def execLlLit207 (s : State) : Host.Outcome State Fault Refusal := finishSymbol (literal 207 s)

/-- LL symbol 208 (R227). -/
def execLlLit208 (s : State) : Host.Outcome State Fault Refusal := finishSymbol (literal 208 s)

/-- LL symbol 209 (R227). -/
def execLlLit209 (s : State) : Host.Outcome State Fault Refusal := finishSymbol (literal 209 s)

/-- LL symbol 210 (R227). -/
def execLlLit210 (s : State) : Host.Outcome State Fault Refusal := finishSymbol (literal 210 s)

/-- LL symbol 211 (R227). -/
def execLlLit211 (s : State) : Host.Outcome State Fault Refusal := finishSymbol (literal 211 s)

/-- LL symbol 212 (R227). -/
def execLlLit212 (s : State) : Host.Outcome State Fault Refusal := finishSymbol (literal 212 s)

/-- LL symbol 213 (R227). -/
def execLlLit213 (s : State) : Host.Outcome State Fault Refusal := finishSymbol (literal 213 s)

/-- LL symbol 214 (R227). -/
def execLlLit214 (s : State) : Host.Outcome State Fault Refusal := finishSymbol (literal 214 s)

/-- LL symbol 215 (R227). -/
def execLlLit215 (s : State) : Host.Outcome State Fault Refusal := finishSymbol (literal 215 s)

/-- LL symbol 216 (R227). -/
def execLlLit216 (s : State) : Host.Outcome State Fault Refusal := finishSymbol (literal 216 s)

/-- LL symbol 217 (R227). -/
def execLlLit217 (s : State) : Host.Outcome State Fault Refusal := finishSymbol (literal 217 s)

/-- LL symbol 218 (R227). -/
def execLlLit218 (s : State) : Host.Outcome State Fault Refusal := finishSymbol (literal 218 s)

/-- LL symbol 219 (R227). -/
def execLlLit219 (s : State) : Host.Outcome State Fault Refusal := finishSymbol (literal 219 s)

/-- LL symbol 220 (R227). -/
def execLlLit220 (s : State) : Host.Outcome State Fault Refusal := finishSymbol (literal 220 s)

/-- LL symbol 221 (R227). -/
def execLlLit221 (s : State) : Host.Outcome State Fault Refusal := finishSymbol (literal 221 s)

/-- LL symbol 222 (R227). -/
def execLlLit222 (s : State) : Host.Outcome State Fault Refusal := finishSymbol (literal 222 s)

/-- LL symbol 223 (R227). -/
def execLlLit223 (s : State) : Host.Outcome State Fault Refusal := finishSymbol (literal 223 s)

/-- LL symbol 224 (R227). -/
def execLlLit224 (s : State) : Host.Outcome State Fault Refusal := finishSymbol (literal 224 s)

/-- LL symbol 225 (R227). -/
def execLlLit225 (s : State) : Host.Outcome State Fault Refusal := finishSymbol (literal 225 s)

/-- LL symbol 226 (R227). -/
def execLlLit226 (s : State) : Host.Outcome State Fault Refusal := finishSymbol (literal 226 s)

/-- LL symbol 227 (R227). -/
def execLlLit227 (s : State) : Host.Outcome State Fault Refusal := finishSymbol (literal 227 s)

/-- LL symbol 228 (R227). -/
def execLlLit228 (s : State) : Host.Outcome State Fault Refusal := finishSymbol (literal 228 s)

/-- LL symbol 229 (R227). -/
def execLlLit229 (s : State) : Host.Outcome State Fault Refusal := finishSymbol (literal 229 s)

/-- LL symbol 230 (R227). -/
def execLlLit230 (s : State) : Host.Outcome State Fault Refusal := finishSymbol (literal 230 s)

/-- LL symbol 231 (R227). -/
def execLlLit231 (s : State) : Host.Outcome State Fault Refusal := finishSymbol (literal 231 s)

/-- LL symbol 232 (R227). -/
def execLlLit232 (s : State) : Host.Outcome State Fault Refusal := finishSymbol (literal 232 s)

/-- LL symbol 233 (R227). -/
def execLlLit233 (s : State) : Host.Outcome State Fault Refusal := finishSymbol (literal 233 s)

/-- LL symbol 234 (R227). -/
def execLlLit234 (s : State) : Host.Outcome State Fault Refusal := finishSymbol (literal 234 s)

/-- LL symbol 235 (R227). -/
def execLlLit235 (s : State) : Host.Outcome State Fault Refusal := finishSymbol (literal 235 s)

/-- LL symbol 236 (R227). -/
def execLlLit236 (s : State) : Host.Outcome State Fault Refusal := finishSymbol (literal 236 s)

/-- LL symbol 237 (R227). -/
def execLlLit237 (s : State) : Host.Outcome State Fault Refusal := finishSymbol (literal 237 s)

/-- LL symbol 238 (R227). -/
def execLlLit238 (s : State) : Host.Outcome State Fault Refusal := finishSymbol (literal 238 s)

/-- LL symbol 239 (R227). -/
def execLlLit239 (s : State) : Host.Outcome State Fault Refusal := finishSymbol (literal 239 s)

/-- LL symbol 240 (R227). -/
def execLlLit240 (s : State) : Host.Outcome State Fault Refusal := finishSymbol (literal 240 s)

/-- LL symbol 241 (R227). -/
def execLlLit241 (s : State) : Host.Outcome State Fault Refusal := finishSymbol (literal 241 s)

/-- LL symbol 242 (R227). -/
def execLlLit242 (s : State) : Host.Outcome State Fault Refusal := finishSymbol (literal 242 s)

/-- LL symbol 243 (R227). -/
def execLlLit243 (s : State) : Host.Outcome State Fault Refusal := finishSymbol (literal 243 s)

/-- LL symbol 244 (R227). -/
def execLlLit244 (s : State) : Host.Outcome State Fault Refusal := finishSymbol (literal 244 s)

/-- LL symbol 245 (R227). -/
def execLlLit245 (s : State) : Host.Outcome State Fault Refusal := finishSymbol (literal 245 s)

/-- LL symbol 246 (R227). -/
def execLlLit246 (s : State) : Host.Outcome State Fault Refusal := finishSymbol (literal 246 s)

/-- LL symbol 247 (R227). -/
def execLlLit247 (s : State) : Host.Outcome State Fault Refusal := finishSymbol (literal 247 s)

/-- LL symbol 248 (R227). -/
def execLlLit248 (s : State) : Host.Outcome State Fault Refusal := finishSymbol (literal 248 s)

/-- LL symbol 249 (R227). -/
def execLlLit249 (s : State) : Host.Outcome State Fault Refusal := finishSymbol (literal 249 s)

/-- LL symbol 250 (R227). -/
def execLlLit250 (s : State) : Host.Outcome State Fault Refusal := finishSymbol (literal 250 s)

/-- LL symbol 251 (R227). -/
def execLlLit251 (s : State) : Host.Outcome State Fault Refusal := finishSymbol (literal 251 s)

/-- LL symbol 252 (R227). -/
def execLlLit252 (s : State) : Host.Outcome State Fault Refusal := finishSymbol (literal 252 s)

/-- LL symbol 253 (R227). -/
def execLlLit253 (s : State) : Host.Outcome State Fault Refusal := finishSymbol (literal 253 s)

/-- LL symbol 254 (R227). -/
def execLlLit254 (s : State) : Host.Outcome State Fault Refusal := finishSymbol (literal 254 s)

/-- LL symbol 255 (R227). -/
def execLlLit255 (s : State) : Host.Outcome State Fault Refusal := finishSymbol (literal 255 s)

end Sys2Proof.Machine
end

