-- ==== Sys2Proof/Machine/Trees.lean ====
section
/-! DEFINITION. The tree commands TCLR, TINS, TBLD, TRST and TADV (42_tree.md).  All are legal in every session
state and none latches. -/

namespace Sys2Proof.Machine

/-- TCLR: the tree is its root, the cursor on it (R181). -/
def execTclr (sel : BitVec 2) (s : State) : Host.Outcome State Fault Refusal :=
  match selOperand sel with
  | none => refuse .illegalOperand s
  | some k => answer 0 (s.setTree k Tree.empty)

/-- TINS: one code is inserted; only an insertion changes the state (R185).  SEL, SYM and MK < 2 are checked before
L > LMAX (R287), all of them IllegalOperand. -/
def execTins (sel : BitVec 2) (sym : BitVec 9) (mk : BitVec 16) (s : State) : Host.Outcome State Fault Refusal :=
  match indexOperand sel sym with
  | none => refuse .illegalOperand s
  | some (k, _) =>
    match markerOperand k mk with
    | none => refuse .illegalOperand s
    | some (l, c) =>
      match (s.tree k).insert (Config.nodecap k) l c sym with
      | .inserted t => answer 0 (s.setTree k t)
      | .alreadyPresent => answer 1 s
      | .prefixViolation => answer 2 s
      | .capacityExceeded => refuse .treeCapacityExceeded s

/-- TBLD: the tree is rebuilt from CODE[SEL]; a failure is not latched and leaves the tree partly built (R188,
R284). -/
def execTbld (sel : BitVec 2) (s : State) : Host.Outcome State Fault Refusal :=
  match selOperand sel with
  | none => refuse .illegalOperand s
  | some k =>
    match buildTree k s with
    | .ok _ s1 => answer 0 s1
    | .err e s1 => refuse e s1
    | .stuck => .fault .loopOutlivedInput

/-- TRST: the cursor returns to the root (R189). -/
def execTrst (sel : BitVec 2) (s : State) : Host.Outcome State Fault Refusal :=
  match selOperand sel with
  | none => refuse .illegalOperand s
  | some k => answer 0 (s.setTree k (s.tree k).resetCursor)

/-- TADV: the cursor advances by one bit; Invalid is a result, not an error (R191). -/
def execTadv (sel : BitVec 2) (bit : Bool) (s : State) : Host.Outcome State Fault Refusal :=
  match selOperand sel with
  | none => refuse .illegalOperand s
  | some k =>
    let (r, t) := (s.tree k).advance bit
    answer r.image (s.setTree k t)

end Sys2Proof.Machine
end

