-- ==== Sys2Proof/Machine/Dispatch.lean ====
section
/-! DEFINITION. The dispatch: one arm per instruction, each one call of its meaning. -/

namespace Sys2Proof.Machine

def exec (i : Instr) (s : State) : Host.Outcome State Fault Refusal :=
  match i with
  | .nop => Sys2Proof.Machine.execNop s
  | .srst => Sys2Proof.Machine.execSrst s
  | .brd keep n => Sys2Proof.Machine.execBrd keep n s
  | .lwr sel idx val => Sys2Proof.Machine.execLwr sel idx val s
  | .lrd sel idx => Sys2Proof.Machine.execLrd sel idx s
  | .cbld sel => Sys2Proof.Machine.execCbld sel s
  | .crd sel idx => Sys2Proof.Machine.execCrd sel idx s
  | .tclr sel => Sys2Proof.Machine.execTclr sel s
  | .tins sel sym mk => Sys2Proof.Machine.execTins sel sym mk s
  | .tbld sel => Sys2Proof.Machine.execTbld sel s
  | .trst sel => Sys2Proof.Machine.execTrst sel s
  | .tadv sel bit => Sys2Proof.Machine.execTadv sel bit s
  | .dblk => Sys2Proof.Machine.execDblk s
  | .dstr => Sys2Proof.Machine.execDstr s
  | .rrd rn => Sys2Proof.Machine.execRrd rn s
  | .reservedOp low => Sys2Proof.Machine.execReservedOp low s
  | .blockStored => Sys2Proof.Machine.execBlockStored s
  | .blockFixed => Sys2Proof.Machine.execBlockFixed s
  | .blockDynamic => Sys2Proof.Machine.execBlockDynamic s
  | .blockReserved => Sys2Proof.Machine.execBlockReserved s
  | .clLen0 => Sys2Proof.Machine.execClLen0 s
  | .clLen1 => Sys2Proof.Machine.execClLen1 s
  | .clLen2 => Sys2Proof.Machine.execClLen2 s
  | .clLen3 => Sys2Proof.Machine.execClLen3 s
  | .clLen4 => Sys2Proof.Machine.execClLen4 s
  | .clLen5 => Sys2Proof.Machine.execClLen5 s
  | .clLen6 => Sys2Proof.Machine.execClLen6 s
  | .clLen7 => Sys2Proof.Machine.execClLen7 s
  | .clLen8 => Sys2Proof.Machine.execClLen8 s
  | .clLen9 => Sys2Proof.Machine.execClLen9 s
  | .clLen10 => Sys2Proof.Machine.execClLen10 s
  | .clLen11 => Sys2Proof.Machine.execClLen11 s
  | .clLen12 => Sys2Proof.Machine.execClLen12 s
  | .clLen13 => Sys2Proof.Machine.execClLen13 s
  | .clLen14 => Sys2Proof.Machine.execClLen14 s
  | .clLen15 => Sys2Proof.Machine.execClLen15 s
  | .clRep16 => Sys2Proof.Machine.execClRep16 s
  | .clRep17 => Sys2Proof.Machine.execClRep17 s
  | .clRep18 => Sys2Proof.Machine.execClRep18 s
  | .llLit0 => Sys2Proof.Machine.execLlLit0 s
  | .llLit1 => Sys2Proof.Machine.execLlLit1 s
  | .llLit2 => Sys2Proof.Machine.execLlLit2 s
  | .llLit3 => Sys2Proof.Machine.execLlLit3 s
  | .llLit4 => Sys2Proof.Machine.execLlLit4 s
  | .llLit5 => Sys2Proof.Machine.execLlLit5 s
  | .llLit6 => Sys2Proof.Machine.execLlLit6 s
  | .llLit7 => Sys2Proof.Machine.execLlLit7 s
  | .llLit8 => Sys2Proof.Machine.execLlLit8 s
  | .llLit9 => Sys2Proof.Machine.execLlLit9 s
  | .llLit10 => Sys2Proof.Machine.execLlLit10 s
  | .llLit11 => Sys2Proof.Machine.execLlLit11 s
  | .llLit12 => Sys2Proof.Machine.execLlLit12 s
  | .llLit13 => Sys2Proof.Machine.execLlLit13 s
  | .llLit14 => Sys2Proof.Machine.execLlLit14 s
  | .llLit15 => Sys2Proof.Machine.execLlLit15 s
  | .llLit16 => Sys2Proof.Machine.execLlLit16 s
  | .llLit17 => Sys2Proof.Machine.execLlLit17 s
  | .llLit18 => Sys2Proof.Machine.execLlLit18 s
  | .llLit19 => Sys2Proof.Machine.execLlLit19 s
  | .llLit20 => Sys2Proof.Machine.execLlLit20 s
  | .llLit21 => Sys2Proof.Machine.execLlLit21 s
  | .llLit22 => Sys2Proof.Machine.execLlLit22 s
  | .llLit23 => Sys2Proof.Machine.execLlLit23 s
  | .llLit24 => Sys2Proof.Machine.execLlLit24 s
  | .llLit25 => Sys2Proof.Machine.execLlLit25 s
  | .llLit26 => Sys2Proof.Machine.execLlLit26 s
  | .llLit27 => Sys2Proof.Machine.execLlLit27 s
  | .llLit28 => Sys2Proof.Machine.execLlLit28 s
  | .llLit29 => Sys2Proof.Machine.execLlLit29 s
  | .llLit30 => Sys2Proof.Machine.execLlLit30 s
  | .llLit31 => Sys2Proof.Machine.execLlLit31 s
  | .llLit32 => Sys2Proof.Machine.execLlLit32 s
  | .llLit33 => Sys2Proof.Machine.execLlLit33 s
  | .llLit34 => Sys2Proof.Machine.execLlLit34 s
  | .llLit35 => Sys2Proof.Machine.execLlLit35 s
  | .llLit36 => Sys2Proof.Machine.execLlLit36 s
  | .llLit37 => Sys2Proof.Machine.execLlLit37 s
  | .llLit38 => Sys2Proof.Machine.execLlLit38 s
  | .llLit39 => Sys2Proof.Machine.execLlLit39 s
  | .llLit40 => Sys2Proof.Machine.execLlLit40 s
  | .llLit41 => Sys2Proof.Machine.execLlLit41 s
  | .llLit42 => Sys2Proof.Machine.execLlLit42 s
  | .llLit43 => Sys2Proof.Machine.execLlLit43 s
  | .llLit44 => Sys2Proof.Machine.execLlLit44 s
  | .llLit45 => Sys2Proof.Machine.execLlLit45 s
  | .llLit46 => Sys2Proof.Machine.execLlLit46 s
  | .llLit47 => Sys2Proof.Machine.execLlLit47 s
  | .llLit48 => Sys2Proof.Machine.execLlLit48 s
  | .llLit49 => Sys2Proof.Machine.execLlLit49 s
  | .llLit50 => Sys2Proof.Machine.execLlLit50 s
  | .llLit51 => Sys2Proof.Machine.execLlLit51 s
  | .llLit52 => Sys2Proof.Machine.execLlLit52 s
  | .llLit53 => Sys2Proof.Machine.execLlLit53 s
  | .llLit54 => Sys2Proof.Machine.execLlLit54 s
  | .llLit55 => Sys2Proof.Machine.execLlLit55 s
  | .llLit56 => Sys2Proof.Machine.execLlLit56 s
  | .llLit57 => Sys2Proof.Machine.execLlLit57 s
  | .llLit58 => Sys2Proof.Machine.execLlLit58 s
  | .llLit59 => Sys2Proof.Machine.execLlLit59 s
  | .llLit60 => Sys2Proof.Machine.execLlLit60 s
  | .llLit61 => Sys2Proof.Machine.execLlLit61 s
  | .llLit62 => Sys2Proof.Machine.execLlLit62 s
  | .llLit63 => Sys2Proof.Machine.execLlLit63 s
  | .llLit64 => Sys2Proof.Machine.execLlLit64 s
  | .llLit65 => Sys2Proof.Machine.execLlLit65 s
  | .llLit66 => Sys2Proof.Machine.execLlLit66 s
  | .llLit67 => Sys2Proof.Machine.execLlLit67 s
  | .llLit68 => Sys2Proof.Machine.execLlLit68 s
  | .llLit69 => Sys2Proof.Machine.execLlLit69 s
  | .llLit70 => Sys2Proof.Machine.execLlLit70 s
  | .llLit71 => Sys2Proof.Machine.execLlLit71 s
  | .llLit72 => Sys2Proof.Machine.execLlLit72 s
  | .llLit73 => Sys2Proof.Machine.execLlLit73 s
  | .llLit74 => Sys2Proof.Machine.execLlLit74 s
  | .llLit75 => Sys2Proof.Machine.execLlLit75 s
  | .llLit76 => Sys2Proof.Machine.execLlLit76 s
  | .llLit77 => Sys2Proof.Machine.execLlLit77 s
  | .llLit78 => Sys2Proof.Machine.execLlLit78 s
  | .llLit79 => Sys2Proof.Machine.execLlLit79 s
  | .llLit80 => Sys2Proof.Machine.execLlLit80 s
  | .llLit81 => Sys2Proof.Machine.execLlLit81 s
  | .llLit82 => Sys2Proof.Machine.execLlLit82 s
  | .llLit83 => Sys2Proof.Machine.execLlLit83 s
  | .llLit84 => Sys2Proof.Machine.execLlLit84 s
  | .llLit85 => Sys2Proof.Machine.execLlLit85 s
  | .llLit86 => Sys2Proof.Machine.execLlLit86 s
  | .llLit87 => Sys2Proof.Machine.execLlLit87 s
  | .llLit88 => Sys2Proof.Machine.execLlLit88 s
  | .llLit89 => Sys2Proof.Machine.execLlLit89 s
  | .llLit90 => Sys2Proof.Machine.execLlLit90 s
  | .llLit91 => Sys2Proof.Machine.execLlLit91 s
  | .llLit92 => Sys2Proof.Machine.execLlLit92 s
  | .llLit93 => Sys2Proof.Machine.execLlLit93 s
  | .llLit94 => Sys2Proof.Machine.execLlLit94 s
  | .llLit95 => Sys2Proof.Machine.execLlLit95 s
  | .llLit96 => Sys2Proof.Machine.execLlLit96 s
  | .llLit97 => Sys2Proof.Machine.execLlLit97 s
  | .llLit98 => Sys2Proof.Machine.execLlLit98 s
  | .llLit99 => Sys2Proof.Machine.execLlLit99 s
  | .llLit100 => Sys2Proof.Machine.execLlLit100 s
  | .llLit101 => Sys2Proof.Machine.execLlLit101 s
  | .llLit102 => Sys2Proof.Machine.execLlLit102 s
  | .llLit103 => Sys2Proof.Machine.execLlLit103 s
  | .llLit104 => Sys2Proof.Machine.execLlLit104 s
  | .llLit105 => Sys2Proof.Machine.execLlLit105 s
  | .llLit106 => Sys2Proof.Machine.execLlLit106 s
  | .llLit107 => Sys2Proof.Machine.execLlLit107 s
  | .llLit108 => Sys2Proof.Machine.execLlLit108 s
  | .llLit109 => Sys2Proof.Machine.execLlLit109 s
  | .llLit110 => Sys2Proof.Machine.execLlLit110 s
  | .llLit111 => Sys2Proof.Machine.execLlLit111 s
  | .llLit112 => Sys2Proof.Machine.execLlLit112 s
  | .llLit113 => Sys2Proof.Machine.execLlLit113 s
  | .llLit114 => Sys2Proof.Machine.execLlLit114 s
  | .llLit115 => Sys2Proof.Machine.execLlLit115 s
  | .llLit116 => Sys2Proof.Machine.execLlLit116 s
  | .llLit117 => Sys2Proof.Machine.execLlLit117 s
  | .llLit118 => Sys2Proof.Machine.execLlLit118 s
  | .llLit119 => Sys2Proof.Machine.execLlLit119 s
  | .llLit120 => Sys2Proof.Machine.execLlLit120 s
  | .llLit121 => Sys2Proof.Machine.execLlLit121 s
  | .llLit122 => Sys2Proof.Machine.execLlLit122 s
  | .llLit123 => Sys2Proof.Machine.execLlLit123 s
  | .llLit124 => Sys2Proof.Machine.execLlLit124 s
  | .llLit125 => Sys2Proof.Machine.execLlLit125 s
  | .llLit126 => Sys2Proof.Machine.execLlLit126 s
  | .llLit127 => Sys2Proof.Machine.execLlLit127 s
  | .llLit128 => Sys2Proof.Machine.execLlLit128 s
  | .llLit129 => Sys2Proof.Machine.execLlLit129 s
  | .llLit130 => Sys2Proof.Machine.execLlLit130 s
  | .llLit131 => Sys2Proof.Machine.execLlLit131 s
  | .llLit132 => Sys2Proof.Machine.execLlLit132 s
  | .llLit133 => Sys2Proof.Machine.execLlLit133 s
  | .llLit134 => Sys2Proof.Machine.execLlLit134 s
  | .llLit135 => Sys2Proof.Machine.execLlLit135 s
  | .llLit136 => Sys2Proof.Machine.execLlLit136 s
  | .llLit137 => Sys2Proof.Machine.execLlLit137 s
  | .llLit138 => Sys2Proof.Machine.execLlLit138 s
  | .llLit139 => Sys2Proof.Machine.execLlLit139 s
  | .llLit140 => Sys2Proof.Machine.execLlLit140 s
  | .llLit141 => Sys2Proof.Machine.execLlLit141 s
  | .llLit142 => Sys2Proof.Machine.execLlLit142 s
  | .llLit143 => Sys2Proof.Machine.execLlLit143 s
  | .llLit144 => Sys2Proof.Machine.execLlLit144 s
  | .llLit145 => Sys2Proof.Machine.execLlLit145 s
  | .llLit146 => Sys2Proof.Machine.execLlLit146 s
  | .llLit147 => Sys2Proof.Machine.execLlLit147 s
  | .llLit148 => Sys2Proof.Machine.execLlLit148 s
  | .llLit149 => Sys2Proof.Machine.execLlLit149 s
  | .llLit150 => Sys2Proof.Machine.execLlLit150 s
  | .llLit151 => Sys2Proof.Machine.execLlLit151 s
  | .llLit152 => Sys2Proof.Machine.execLlLit152 s
  | .llLit153 => Sys2Proof.Machine.execLlLit153 s
  | .llLit154 => Sys2Proof.Machine.execLlLit154 s
  | .llLit155 => Sys2Proof.Machine.execLlLit155 s
  | .llLit156 => Sys2Proof.Machine.execLlLit156 s
  | .llLit157 => Sys2Proof.Machine.execLlLit157 s
  | .llLit158 => Sys2Proof.Machine.execLlLit158 s
  | .llLit159 => Sys2Proof.Machine.execLlLit159 s
  | .llLit160 => Sys2Proof.Machine.execLlLit160 s
  | .llLit161 => Sys2Proof.Machine.execLlLit161 s
  | .llLit162 => Sys2Proof.Machine.execLlLit162 s
  | .llLit163 => Sys2Proof.Machine.execLlLit163 s
  | .llLit164 => Sys2Proof.Machine.execLlLit164 s
  | .llLit165 => Sys2Proof.Machine.execLlLit165 s
  | .llLit166 => Sys2Proof.Machine.execLlLit166 s
  | .llLit167 => Sys2Proof.Machine.execLlLit167 s
  | .llLit168 => Sys2Proof.Machine.execLlLit168 s
  | .llLit169 => Sys2Proof.Machine.execLlLit169 s
  | .llLit170 => Sys2Proof.Machine.execLlLit170 s
  | .llLit171 => Sys2Proof.Machine.execLlLit171 s
  | .llLit172 => Sys2Proof.Machine.execLlLit172 s
  | .llLit173 => Sys2Proof.Machine.execLlLit173 s
  | .llLit174 => Sys2Proof.Machine.execLlLit174 s
  | .llLit175 => Sys2Proof.Machine.execLlLit175 s
  | .llLit176 => Sys2Proof.Machine.execLlLit176 s
  | .llLit177 => Sys2Proof.Machine.execLlLit177 s
  | .llLit178 => Sys2Proof.Machine.execLlLit178 s
  | .llLit179 => Sys2Proof.Machine.execLlLit179 s
  | .llLit180 => Sys2Proof.Machine.execLlLit180 s
  | .llLit181 => Sys2Proof.Machine.execLlLit181 s
  | .llLit182 => Sys2Proof.Machine.execLlLit182 s
  | .llLit183 => Sys2Proof.Machine.execLlLit183 s
  | .llLit184 => Sys2Proof.Machine.execLlLit184 s
  | .llLit185 => Sys2Proof.Machine.execLlLit185 s
  | .llLit186 => Sys2Proof.Machine.execLlLit186 s
  | .llLit187 => Sys2Proof.Machine.execLlLit187 s
  | .llLit188 => Sys2Proof.Machine.execLlLit188 s
  | .llLit189 => Sys2Proof.Machine.execLlLit189 s
  | .llLit190 => Sys2Proof.Machine.execLlLit190 s
  | .llLit191 => Sys2Proof.Machine.execLlLit191 s
  | .llLit192 => Sys2Proof.Machine.execLlLit192 s
  | .llLit193 => Sys2Proof.Machine.execLlLit193 s
  | .llLit194 => Sys2Proof.Machine.execLlLit194 s
  | .llLit195 => Sys2Proof.Machine.execLlLit195 s
  | .llLit196 => Sys2Proof.Machine.execLlLit196 s
  | .llLit197 => Sys2Proof.Machine.execLlLit197 s
  | .llLit198 => Sys2Proof.Machine.execLlLit198 s
  | .llLit199 => Sys2Proof.Machine.execLlLit199 s
  | .llLit200 => Sys2Proof.Machine.execLlLit200 s
  | .llLit201 => Sys2Proof.Machine.execLlLit201 s
  | .llLit202 => Sys2Proof.Machine.execLlLit202 s
  | .llLit203 => Sys2Proof.Machine.execLlLit203 s
  | .llLit204 => Sys2Proof.Machine.execLlLit204 s
  | .llLit205 => Sys2Proof.Machine.execLlLit205 s
  | .llLit206 => Sys2Proof.Machine.execLlLit206 s
  | .llLit207 => Sys2Proof.Machine.execLlLit207 s
  | .llLit208 => Sys2Proof.Machine.execLlLit208 s
  | .llLit209 => Sys2Proof.Machine.execLlLit209 s
  | .llLit210 => Sys2Proof.Machine.execLlLit210 s
  | .llLit211 => Sys2Proof.Machine.execLlLit211 s
  | .llLit212 => Sys2Proof.Machine.execLlLit212 s
  | .llLit213 => Sys2Proof.Machine.execLlLit213 s
  | .llLit214 => Sys2Proof.Machine.execLlLit214 s
  | .llLit215 => Sys2Proof.Machine.execLlLit215 s
  | .llLit216 => Sys2Proof.Machine.execLlLit216 s
  | .llLit217 => Sys2Proof.Machine.execLlLit217 s
  | .llLit218 => Sys2Proof.Machine.execLlLit218 s
  | .llLit219 => Sys2Proof.Machine.execLlLit219 s
  | .llLit220 => Sys2Proof.Machine.execLlLit220 s
  | .llLit221 => Sys2Proof.Machine.execLlLit221 s
  | .llLit222 => Sys2Proof.Machine.execLlLit222 s
  | .llLit223 => Sys2Proof.Machine.execLlLit223 s
  | .llLit224 => Sys2Proof.Machine.execLlLit224 s
  | .llLit225 => Sys2Proof.Machine.execLlLit225 s
  | .llLit226 => Sys2Proof.Machine.execLlLit226 s
  | .llLit227 => Sys2Proof.Machine.execLlLit227 s
  | .llLit228 => Sys2Proof.Machine.execLlLit228 s
  | .llLit229 => Sys2Proof.Machine.execLlLit229 s
  | .llLit230 => Sys2Proof.Machine.execLlLit230 s
  | .llLit231 => Sys2Proof.Machine.execLlLit231 s
  | .llLit232 => Sys2Proof.Machine.execLlLit232 s
  | .llLit233 => Sys2Proof.Machine.execLlLit233 s
  | .llLit234 => Sys2Proof.Machine.execLlLit234 s
  | .llLit235 => Sys2Proof.Machine.execLlLit235 s
  | .llLit236 => Sys2Proof.Machine.execLlLit236 s
  | .llLit237 => Sys2Proof.Machine.execLlLit237 s
  | .llLit238 => Sys2Proof.Machine.execLlLit238 s
  | .llLit239 => Sys2Proof.Machine.execLlLit239 s
  | .llLit240 => Sys2Proof.Machine.execLlLit240 s
  | .llLit241 => Sys2Proof.Machine.execLlLit241 s
  | .llLit242 => Sys2Proof.Machine.execLlLit242 s
  | .llLit243 => Sys2Proof.Machine.execLlLit243 s
  | .llLit244 => Sys2Proof.Machine.execLlLit244 s
  | .llLit245 => Sys2Proof.Machine.execLlLit245 s
  | .llLit246 => Sys2Proof.Machine.execLlLit246 s
  | .llLit247 => Sys2Proof.Machine.execLlLit247 s
  | .llLit248 => Sys2Proof.Machine.execLlLit248 s
  | .llLit249 => Sys2Proof.Machine.execLlLit249 s
  | .llLit250 => Sys2Proof.Machine.execLlLit250 s
  | .llLit251 => Sys2Proof.Machine.execLlLit251 s
  | .llLit252 => Sys2Proof.Machine.execLlLit252 s
  | .llLit253 => Sys2Proof.Machine.execLlLit253 s
  | .llLit254 => Sys2Proof.Machine.execLlLit254 s
  | .llLit255 => Sys2Proof.Machine.execLlLit255 s
  | .llEob => Sys2Proof.Machine.execLlEob s
  | .llLen257 => Sys2Proof.Machine.execLlLen257 s
  | .llLen258 => Sys2Proof.Machine.execLlLen258 s
  | .llLen259 => Sys2Proof.Machine.execLlLen259 s
  | .llLen260 => Sys2Proof.Machine.execLlLen260 s
  | .llLen261 => Sys2Proof.Machine.execLlLen261 s
  | .llLen262 => Sys2Proof.Machine.execLlLen262 s
  | .llLen263 => Sys2Proof.Machine.execLlLen263 s
  | .llLen264 => Sys2Proof.Machine.execLlLen264 s
  | .llLen265 => Sys2Proof.Machine.execLlLen265 s
  | .llLen266 => Sys2Proof.Machine.execLlLen266 s
  | .llLen267 => Sys2Proof.Machine.execLlLen267 s
  | .llLen268 => Sys2Proof.Machine.execLlLen268 s
  | .llLen269 => Sys2Proof.Machine.execLlLen269 s
  | .llLen270 => Sys2Proof.Machine.execLlLen270 s
  | .llLen271 => Sys2Proof.Machine.execLlLen271 s
  | .llLen272 => Sys2Proof.Machine.execLlLen272 s
  | .llLen273 => Sys2Proof.Machine.execLlLen273 s
  | .llLen274 => Sys2Proof.Machine.execLlLen274 s
  | .llLen275 => Sys2Proof.Machine.execLlLen275 s
  | .llLen276 => Sys2Proof.Machine.execLlLen276 s
  | .llLen277 => Sys2Proof.Machine.execLlLen277 s
  | .llLen278 => Sys2Proof.Machine.execLlLen278 s
  | .llLen279 => Sys2Proof.Machine.execLlLen279 s
  | .llLen280 => Sys2Proof.Machine.execLlLen280 s
  | .llLen281 => Sys2Proof.Machine.execLlLen281 s
  | .llLen282 => Sys2Proof.Machine.execLlLen282 s
  | .llLen283 => Sys2Proof.Machine.execLlLen283 s
  | .llLen284 => Sys2Proof.Machine.execLlLen284 s
  | .llLen285 => Sys2Proof.Machine.execLlLen285 s
  | .llRes286 => Sys2Proof.Machine.execLlRes286 s
  | .llRes287 => Sys2Proof.Machine.execLlRes287 s
  | .distD0 => Sys2Proof.Machine.execDistD0 s
  | .distD1 => Sys2Proof.Machine.execDistD1 s
  | .distD2 => Sys2Proof.Machine.execDistD2 s
  | .distD3 => Sys2Proof.Machine.execDistD3 s
  | .distD4 => Sys2Proof.Machine.execDistD4 s
  | .distD5 => Sys2Proof.Machine.execDistD5 s
  | .distD6 => Sys2Proof.Machine.execDistD6 s
  | .distD7 => Sys2Proof.Machine.execDistD7 s
  | .distD8 => Sys2Proof.Machine.execDistD8 s
  | .distD9 => Sys2Proof.Machine.execDistD9 s
  | .distD10 => Sys2Proof.Machine.execDistD10 s
  | .distD11 => Sys2Proof.Machine.execDistD11 s
  | .distD12 => Sys2Proof.Machine.execDistD12 s
  | .distD13 => Sys2Proof.Machine.execDistD13 s
  | .distD14 => Sys2Proof.Machine.execDistD14 s
  | .distD15 => Sys2Proof.Machine.execDistD15 s
  | .distD16 => Sys2Proof.Machine.execDistD16 s
  | .distD17 => Sys2Proof.Machine.execDistD17 s
  | .distD18 => Sys2Proof.Machine.execDistD18 s
  | .distD19 => Sys2Proof.Machine.execDistD19 s
  | .distD20 => Sys2Proof.Machine.execDistD20 s
  | .distD21 => Sys2Proof.Machine.execDistD21 s
  | .distD22 => Sys2Proof.Machine.execDistD22 s
  | .distD23 => Sys2Proof.Machine.execDistD23 s
  | .distD24 => Sys2Proof.Machine.execDistD24 s
  | .distD25 => Sys2Proof.Machine.execDistD25 s
  | .distD26 => Sys2Proof.Machine.execDistD26 s
  | .distD27 => Sys2Proof.Machine.execDistD27 s
  | .distD28 => Sys2Proof.Machine.execDistD28 s
  | .distD29 => Sys2Proof.Machine.execDistD29 s
  | .distRes30 => Sys2Proof.Machine.execDistRes30 s
  | .distRes31 => Sys2Proof.Machine.execDistRes31 s

end Sys2Proof.Machine
end

