-- ==== Sys2Proof/Machine/Step.lean ====
section
/-! DEFINITION. One step: one command of the host, from its word to its answer (R5, R68, R74). -/

namespace Sys2Proof.Machine

/-- One step.  With nothing waiting, the block is idle and holds its state (R297, R313). -/
def step (s : State) : Host.Outcome State Fault Refusal :=
  match nextCode s with
  | none => .next s
  | some (c, s1) =>
    match decode c with
    | .ok i => exec i s1
    | .error r => rejectCode r s1

/-- The state with an instruction of the opcode table, numbered as the table numbers its bits, placed to run next. -/
def State.withFetchWord (s : State) (nbits w : Nat) : State := placeCode s (tableCode nbits w)

end Sys2Proof.Machine
end

