-- ==== Sys2Proof/Safety.lean ====
section
/-! DEFINITION. The terms the statements use: the bits of the input stream, paths in a tree, the conditions that
hold between commands, and what two states share. -/

namespace Sys2Proof.Machine

/-! ### The opcode map (R101, R124) -/

/-- The rows of the command opcode map, as (match, mask) (R101). -/
def opcodeMap : List (Word × Word) :=
  [(0x00000000, 0xFFFFFFFF), (0x10000000, 0xFFFFFFFF), (0x20000000, 0xFFFFFF80), (0x30000000, 0xF200FFF0),
   (0x40000000, 0xF200FFFF), (0x50000000, 0xF3FFFFFF), (0x60000000, 0xF200FFFF), (0x70000000, 0xF3FFFFFF),
   (0x80000000, 0xF2000000), (0x90000000, 0xF3FFFFFF), (0xA0000000, 0xF3FFFFFF), (0xB0000000, 0xF3FFFFFE),
   (0xC0000000, 0xFFFFFFFF), (0xD0000000, 0xFFFFFFFF), (0xE0000000, 0xFFFFFF00), (0xF0000000, 0xF0000000)]

/-- How many values a kind of stream value has (R124). -/
def streamSize : StreamKind → Nat
  | .btype => 4
  | .cl => 19
  | .ll => 288
  | .dist => 32

/-! ### The input stream as bits (R69, R70) -/

/-- The bits of a byte in the order they are consumed, least significant first (R69). -/
def byteBits (b : Byte) : List Bool := (List.range 8).map b.getLsbD

/-- The bits not yet consumed, in the order they will be: those buffered, then those of the bytes not yet fetched
(R29, R69). -/
def State.streamBits (s : State) : List Bool :=
  (List.range s.brCnt.toNat).map s.brAcc.getLsbD ++ s.input.flatMap byteBits

/-- The unsigned number whose bit 0 is the first bit of the list (R70). -/
def bitsValue : List Bool → Nat
  | [] => 0
  | b :: rest => b.toNat + 2 * bitsValue rest

/-! ### Codes and paths (R16, R38) -/

/-- The bit string of a code of length `l` and value `c`: its most-significant bit first (R16). -/
def codeBits (l c : Nat) : List Bool := (List.range l).reverse.map c.testBit

/-- The node a bit string leads to from a node, if every step has a child (R190). -/
def Tree.walk (t : Tree) : BitVec 12 → List Bool → Option (BitVec 12)
  | n, [] => some n
  | n, b :: rest =>
    match (t.node n).child b with
    | some m => Tree.walk t m rest
    | none => none

/-- The node at an index is a LEAF of this symbol. -/
def Tree.leafAt (t : Tree) (n : BitVec 12) (sym : BitVec 9) : Prop := t.node n = .leaf sym

/-- A bit string leads from the root to a LEAF of this symbol. -/
def Tree.codeOf (t : Tree) (bits : List Bool) (sym : BitVec 9) : Prop := ∃ n, t.walk 0 bits = some n ∧ t.leafAt n sym

/-! ### Canonical codes (R165 to R168) -/

/-- `nextCode[l]` before any code is given out: `(nextCode[l-1] + lenCount[l-1]) << 1`, with `nextCode[0]` and
`lenCount[0]` 0 (R165, step 2). -/
def firstCode (lens : List Nat) : Nat → Nat
  | 0 => 0
  | l + 1 => (firstCode lens l + if l = 0 then 0 else lens.count l) * 2

/-- The code value of symbol `i`: the first code of its length, moved on once for each symbol of the same length
below it (R165, step 3; R167). -/
def codeValue (lens : List Nat) (i : Nat) : Nat :=
  firstCode lens (lens.getD i 0) + (lens.take i).count (lens.getD i 0)

/-- The Kraft sum of a length array over the nonzero lengths, in units of 2^-15 (R168). -/
def kraftSum (lens : List Nat) : Nat := (lens.map fun l => if l = 0 then 0 else 2 ^ (15 - l)).sum

/-! ### A dynamic block as bits (R110 to R119) -/

/-- A field of `n` bits with value `v`: its bit 0 first (R70). -/
def numBits (n v : Nat) : List Bool := (List.range n).map v.testBit

/-- The canonical code of a symbol under a length array, its most-significant bit first (R16, R165). -/
def codeWord (lens : List Nat) (i : Nat) : List Bool := codeBits (lens.getD i 0) (codeValue lens i)

/-- An item of the code-length sequence: one length, or a repeat with the value of its extra bits (R115). -/
inductive LengthItem where
  | one (l : Nat)
  | again (x : Nat)
  | zeros (x : Nat)
  | manyZeros (x : Nat)
  deriving DecidableEq, Repr

/-- The bits of an item, under the lengths of the code-length alphabet (R115). -/
def LengthItem.bits (cl : List Nat) : LengthItem → List Bool
  | .one l => codeWord cl l
  | .again x => codeWord cl 16 ++ numBits 2 x
  | .zeros x => codeWord cl 17 ++ numBits 3 x
  | .manyZeros x => codeWord cl 18 ++ numBits 7 x

/-- The item's symbol has a code, and its value fits its bits. -/
def LengthItem.ok (cl : List Nat) : LengthItem → Bool
  | .one l => decide (l ≤ 15) && decide (cl.getD l 0 ≠ 0)
  | .again x => decide (x < 4) && decide (cl.getD 16 0 ≠ 0)
  | .zeros x => decide (x < 8) && decide (cl.getD 17 0 ≠ 0)
  | .manyZeros x => decide (x < 128) && decide (cl.getD 18 0 ≠ 0)

/-- The lengths a sequence of items stands for, after a given lastLength (R115). -/
def expandLengths : Nat → List LengthItem → List Nat
  | _, [] => []
  | _, .one l :: rest => l :: expandLengths l rest
  | last, .again x :: rest => List.replicate (3 + x) last ++ expandLengths last rest
  | _, .zeros x :: rest => List.replicate (3 + x) 0 ++ expandLengths 0 rest
  | _, .manyZeros x :: rest => List.replicate (11 + x) 0 ++ expandLengths 0 rest

/-- An item of the block data: a literal byte, or a back-reference by its length code, distance code and the values
of their extra bits (R117 to R119). -/
inductive Token where
  | literal (b : Byte)
  | copy (lc lx dc dx : Nat)
  deriving DecidableEq, Repr

/-- Extra bits and base of a length code (R118). -/
def lengthEntry (lc : Nat) : Nat × Nat := lengthTable.getD (lc - 257) (0, 0)

/-- Extra bits and base of a distance code (R119). -/
def distanceEntry (dc : Nat) : Nat × Nat := distanceTable.getD dc (0, 0)

/-- The bits of a token, under the lengths of the two data alphabets (R117, R119, R120). -/
def Token.bits (ll dist : List Nat) : Token → List Bool
  | .literal b => codeWord ll b.toNat
  | .copy lc lx dc dx =>
    codeWord ll lc ++ numBits (lengthEntry lc).1 lx ++ codeWord dist dc ++ numBits (distanceEntry dc).1 dx

/-- How many bytes a token produces. -/
def Token.size : Token → Nat
  | .literal _ => 1
  | .copy lc lx _ _ => (lengthEntry lc).2 + lx

/-- Every symbol has a code, every extra value fits its bits, and no distance exceeds the bytes produced before it
(R233), `produced` of them before the first token. -/
def tokensOk (ll dist : List Nat) : Nat → List Token → Bool
  | _, [] => true
  | produced, .literal b :: rest => decide (ll.getD b.toNat 0 ≠ 0) && tokensOk ll dist (produced + 1) rest
  | produced, .copy lc lx dc dx :: rest =>
    decide (257 ≤ lc) && decide (lc ≤ 285) && decide (dc ≤ 29) && decide (ll.getD lc 0 ≠ 0) &&
    decide (dist.getD dc 0 ≠ 0) && decide (lx < 2 ^ (lengthEntry lc).1) && decide (dx < 2 ^ (distanceEntry dc).1) &&
    decide ((distanceEntry dc).2 + dx ≤ produced) &&
    tokensOk ll dist (produced + (Token.copy lc lx dc dx).size) rest

/-- The output after `n` more bytes, each the byte `d` places back at that moment (R235). -/
def repeatBack (d : Nat) : Nat → List Byte → List Byte
  | 0, out => out
  | n + 1, out => repeatBack d n (out ++ [out.getD (out.length - d) 0])

/-- The output after a token. -/
def Token.expand (out : List Byte) : Token → List Byte
  | .literal b => out ++ [b]
  | .copy lc lx dc dx => repeatBack ((distanceEntry dc).2 + dx) ((lengthEntry lc).2 + lx) out

/-- The contents of a dynamic block: the last-block flag, the number of code-length lengths sent and those lengths,
the length sequence, the lengths it stands for, and the data. -/
structure BlockText where
  bfinal : Bool
  numCL : Nat
  cl : List Nat
  items : List LengthItem
  ll : List Nat
  dist : List Nat
  tokens : List Token
  deriving DecidableEq, Repr

/-- The bits of a block (R111 to R117). -/
def BlockText.bits (b : BlockText) : List Bool :=
  [b.bfinal, false, true] ++ numBits 5 (b.ll.length - 257) ++ numBits 5 (b.dist.length - 1) ++ numBits 4 (b.numCL - 4) ++
  (perm.take b.numCL).flatMap (fun i => numBits 3 (b.cl.getD i 0)) ++
  b.items.flatMap (LengthItem.bits b.cl) ++
  b.tokens.flatMap (Token.bits b.ll b.dist) ++ codeWord b.ll 256

/-- The block is one DEFLATE allows, when `produced` bytes of the stream come before it: counts in range, the lengths
not sent 0, no alphabet over-subscribed (R168), every symbol used with a code. -/
structure BlockText.ok (b : BlockText) (produced : Nat) : Prop where
  numCL : 4 ≤ b.numCL ∧ b.numCL ≤ 19
  cl : b.cl.length = 19 ∧ (∀ l ∈ b.cl, l ≤ 7) ∧ (∀ i ∈ perm.drop b.numCL, b.cl.getD i 0 = 0) ∧ kraftSum b.cl ≤ 2 ^ 15
  items : ∀ it ∈ b.items, it.ok b.cl = true
  sequence : expandLengths 0 b.items = b.ll ++ b.dist
  ll : 257 ≤ b.ll.length ∧ b.ll.length ≤ 288 ∧ kraftSum b.ll ≤ 2 ^ 15 ∧ b.ll.getD 256 0 ≠ 0
  dist : 1 ≤ b.dist.length ∧ b.dist.length ≤ 32 ∧ kraftSum b.dist ≤ 2 ^ 15
  tokens : tokensOk b.ll b.dist produced b.tokens = true

/-- A stream: blocks with BFINAL 0 and then one with BFINAL 1, each legal after the bytes before it (R110). -/
def streamOk : Nat → List BlockText → Prop
  | _, [] => False
  | produced, [b] => b.bfinal = true ∧ b.ok produced
  | produced, b :: rest => b.bfinal = false ∧ b.ok produced ∧ streamOk (produced + (b.tokens.map Token.size).sum) rest

/-! ### What holds between any two commands -/

/-- The bit reader: at most 39 bits are buffered, and no bit above the buffered count is set (R32). -/
def State.readerOk (s : State) : Prop := s.brCnt.toNat ≤ 39 ∧ s.brAcc.toNat < 2 ^ s.brCnt.toNat

/-- The tree invariants (R39 to R41): the root is INTERNAL; NCNT does not exceed NODECAP; the cursor is an
allocated node; a child is a node allocated later than its parent; and every node except the root is the child of
exactly one node, in one direction.  A LEAF has no children by its type. -/
structure Tree.wf (cap : Nat) (t : Tree) : Prop where
  root : ∃ c0 c1, t.nodes[0]? = some (.internal c0 c1)
  ncnt_le : t.nodes.length ≤ cap
  cur_lt : t.cur.toNat < t.nodes.length
  child_later : ∀ n b m, n.toNat < t.nodes.length → (t.node n).child b = some m →
    n.toNat < m.toNat ∧ m.toNat < t.nodes.length
  has_parent : ∀ m : BitVec 12, 0 < m.toNat → m.toNat < t.nodes.length →
    ∃ n b, n.toNat < t.nodes.length ∧ (t.node n).child b = some m
  one_parent : ∀ n n' b b' m, n.toNat < t.nodes.length → n'.toNat < t.nodes.length →
    (t.node n).child b = some m → (t.node n').child b' = some m → n = n' ∧ b = b'

/-- All three trees keep the invariants. -/
def State.treesOk (s : State) : Prop := ∀ k, (s.tree k).wf (Config.nodecap k)

/-- The window holds the most recent output: WFILL bytes of it, the byte at distance `d` behind the write pointer
being the `d`-th last byte put out (R42, R44, R64). -/
def State.windowOk (s : State) : Prop :=
  Memory.wf s.win ∧ s.wfill.toNat ≤ Config.wsize ∧ s.wfill.toNat ≤ s.output.length ∧
  ∀ d, 1 ≤ d → d ≤ s.wfill.toNat → Memory.lookup s.win (s.behind d) = s.output[s.output.length - d]?

/-- The error register and the session state agree: an error is latched exactly in FAULTED (R24, R25). -/
def State.errorOk (s : State) : Prop := s.sstate = .faulted ↔ s.errCode ≠ 0

/-- No block-decoding command is in progress: its local values hold nothing and no stream value is staged (R46). -/
def State.betweenCommands (s : State) : Prop := s.staged = none ∧ s.loc = Locals.idle

/-- A code table holds no code longer than its alphabet's longest (R8, R37): CBLD, its only writer, takes the
lengths from LEN. -/
def State.codesOk (s : State) : Prop := ∀ k, ∀ e ∈ s.codes k, e.clen.toNat ≤ Config.lmax k

/-- The bit string that a symbol's entry in the code table stands for (R16, R37). -/
def State.codeString (s : State) (k : Sel) (i : Nat) : List Bool :=
  codeBits (s.codeAt k i).clen.toNat (s.codeAt k i).cval.toNat

/-- Symbol `i` stops BuildTree: it has a code, and the code does not fit its length, or equals, begins with or is
the beginning of a code of a symbol below it (R183, R187). -/
def State.codeFails (s : State) (k : Sel) (i : Nat) : Prop :=
  (s.codeAt k i).clen ≠ 0 ∧
  (2 ^ (s.codeAt k i).clen.toNat ≤ (s.codeAt k i).cval.toNat ∨
    ∃ j, j < i ∧ (s.codeAt k j).clen ≠ 0 ∧
      (s.codeString k j <+: s.codeString k i ∨ s.codeString k i <+: s.codeString k j))

/-- What holds between any two commands, all together. -/
structure State.Inv (s : State) : Prop where
  reader : s.readerOk
  trees : s.treesOk
  codes : s.codesOk
  window : s.windowOk
  error : s.errorOk
  between : s.betweenCommands

/-! ### A sequence of reads (R148) -/

/-- The results of consuming reads of the given sizes, each later result in the more significant position. -/
def readAll : List Nat → State → Res Nat
  | [], s => .ok 0 s
  | n :: rest, s =>
    (readBits n false s).bind fun v s1 => (readAll rest s1).bind fun u s2 => .ok (v + 2 ^ n * u) s2

/-! ### What a piece of a command leaves true, whether it goes on or raises -/

/-- The state a piece ends in, where it does not get stuck, satisfies a property. -/
def Res.Holds {α : Type} (P : State → Prop) : Res α → Prop
  | .ok _ s => P s
  | .err _ s => P s
  | .stuck => True

/-! ### What two states share -/

/-- The session state and the error registers are the same (R24 to R28). -/
def SameSession (s t : State) : Prop :=
  t.sstate = s.sstate ∧ t.errCode = s.errCode ∧ t.errBlock = s.errBlock ∧ t.errPhase = s.errPhase ∧
  t.errBitpos = s.errBitpos

/-- The bit reader and the bytes the host will supply are the same (R29 to R31, R66). -/
def SameReader (s t : State) : Prop :=
  t.brAcc = s.brAcc ∧ t.brCnt = s.brCnt ∧ t.bitpos = s.bitpos ∧ t.input = s.input

/-- The block registers and the values local to a block are the same (R33 to R35, R46). -/
def SameBlock (s t : State) : Prop :=
  t.blkcnt = s.blkcnt ∧ t.bhdr = s.bhdr ∧ t.phase = s.phase ∧ t.loc = s.loc ∧ t.staged = s.staged

/-- The code-length arrays are the same (R36). -/
def SameLengths (s t : State) : Prop := t.lenCL = s.lenCL ∧ t.lenLL = s.lenLL ∧ t.lenDIST = s.lenDIST

/-- The code tables are the same (R37). -/
def SameCodes (s t : State) : Prop := t.codeCL = s.codeCL ∧ t.codeLL = s.codeLL ∧ t.codeDIST = s.codeDIST

/-- The trees and their cursors are the same (R38 to R40). -/
def SameTrees (s t : State) : Prop := t.treeCL = s.treeCL ∧ t.treeLL = s.treeLL ∧ t.treeDIST = s.treeDIST

/-- The window, its registers and the output are the same: every window index reads as before (R42 to R45). -/
def SameWindow (s t : State) : Prop :=
  (∀ i, Memory.read t.win i = Memory.read s.win i) ∧ t.wptr = s.wptr ∧ t.wfill = s.wfill ∧
  t.outcnt = s.outcnt ∧ t.output = s.output

/-- Everything the stream decoding of a session consists of is the same: all but the tables, the trees and the
answer on the command port. -/
def SameStream (s t : State) : Prop :=
  SameSession s t ∧ SameReader s t ∧ SameBlock s t ∧ SameWindow s t ∧ t.cmds = s.cmds

/-- All but the bit reader and the answer on the command port is the same. -/
def SameOutsideReader (s t : State) : Prop :=
  SameSession s t ∧ SameBlock s t ∧ SameLengths s t ∧ SameCodes s t ∧ SameTrees s t ∧ SameWindow s t ∧
  t.cmds = s.cmds

/-- All but the bit reader, the cursor of one tree and the answer on the command port is the same (R190, R192). -/
structure SameOutsideTraversal (k : Sel) (s t : State) : Prop where
  nodes : (t.tree k).nodes = (s.tree k).nodes
  trees : ∀ j, j ≠ k → t.tree j = s.tree j
  session : SameSession s t
  block : SameBlock s t
  tables : SameLengths s t ∧ SameCodes s t
  window : SameWindow s t
  port : t.cmds = s.cmds

/-- BuildTree ran over the symbols below `m`: the tree of `t` decodes exactly the codes that CODE[k] of `s` gives
them, each to its symbol; its cursor is on the root; and all but this tree and the answer on the command port is the
same (R187, R188). -/
structure CodesInserted (k : Sel) (m : Nat) (s t : State) : Prop where
  decodes : ∀ bits sym, (t.tree k).codeOf bits sym ↔
    ∃ i, i < m ∧ (s.codeAt k i).clen ≠ 0 ∧ bits = s.codeString k i ∧ sym = BitVec.ofNat 9 i
  wf : (t.tree k).wf (Config.nodecap k)
  cursor : (t.tree k).cur = 0
  trees : ∀ j, j ≠ k → t.tree j = s.tree j
  tables : SameLengths s t ∧ SameCodes s t
  stream : SameStream s t

/-- An error is latched in `t` over the state `s` it was raised in (R283): the four context registers, the session
state and the answer are as the latch writes them; the bit reader, the block registers, the arrays, the trees, the
window and the output are as the error found them (R285). -/
structure ErrorLatched (e : Status) (phase : BitVec 3) (s t : State) : Prop where
  code : t.errCode = e.code
  block : t.errBlock = s.blkcnt
  phase : t.errPhase = phase
  bitpos : t.errBitpos = s.bitpos
  session : t.sstate = .faulted
  answer : t.resp = some { status := e, result := 0 }
  reader : SameReader s t
  registers : t.blkcnt = s.blkcnt ∧ t.bhdr = s.bhdr ∧ t.phase = s.phase ∧ t.staged = s.staged
  tables : SameLengths s t ∧ SameCodes s t ∧ SameTrees s t
  window : SameWindow s t
  port : t.cmds = s.cmds

end Sys2Proof.Machine
end

