-- ==== Sys2Proof/Certificates/Slice0/Obligations.lean ====
section
/-! DEFINITION. The statements for the provers. -/

open Sys2Proof Sys2Proof.Machine

/-- Decoding the code of any instruction gives it back, and a code in its width that decodes is the code of what
it decodes to.  Rests on 30_encoding.md R91 R92 R101 R102 R103 R124.  The widths are those of R124: 5 bits for
CL and DIST, 2 for a block type, 9 for LL.  That a value is counted by the bits of its width is the model's
choice (notes/assumptions/12). -/
def Obligations.DecodeUndoesEncode : Prop :=
  (∀ i : Instr, decode (encode i) = .ok i) ∧
  (∀ (w : Word) (i : Instr), decode (.command w) = .ok i → encode i = .command w) ∧
  (∀ (v : BitVec 9) (i : Instr), decode (.symbol .ll v) = .ok i → encode i = .symbol .ll v) ∧
  (∀ (v : BitVec 9) (i : Instr), v.toNat < 32 →
    (decode (.symbol .cl v) = .ok i → encode i = .symbol .cl v) ∧
    (decode (.symbol .dist v) = .ok i → encode i = .symbol .dist v)) ∧
  (∀ (v : BitVec 9) (i : Instr), v.toNat < 4 → decode (.symbol .btype v) = .ok i → encode i = .symbol .btype v)

/-- A word that matches a row of the opcode map under its mask is that row's command, with its fields.  Formalises
R101. -/
def Obligations.OpcodeMapSelectsCommand : Prop :=
  ∀ w : Word,
  (w &&& 0xFFFFFFFF = 0x00000000 → decode (.command w) = .ok .nop) ∧
  (w &&& 0xFFFFFFFF = 0x10000000 → decode (.command w) = .ok .srst) ∧
  (w &&& 0xFFFFFF80 = 0x20000000 → decode (.command w) = .ok (.brd (w.getLsbD 6) (w.extractLsb' 0 6))) ∧
  (w &&& 0xF200FFF0 = 0x30000000 →
    decode (.command w) = .ok (.lwr (w.extractLsb' 26 2) (w.extractLsb' 16 9) (w.extractLsb' 0 4))) ∧
  (w &&& 0xF200FFFF = 0x40000000 → decode (.command w) = .ok (.lrd (w.extractLsb' 26 2) (w.extractLsb' 16 9))) ∧
  (w &&& 0xF3FFFFFF = 0x50000000 → decode (.command w) = .ok (.cbld (w.extractLsb' 26 2))) ∧
  (w &&& 0xF200FFFF = 0x60000000 → decode (.command w) = .ok (.crd (w.extractLsb' 26 2) (w.extractLsb' 16 9))) ∧
  (w &&& 0xF3FFFFFF = 0x70000000 → decode (.command w) = .ok (.tclr (w.extractLsb' 26 2))) ∧
  (w &&& 0xF2000000 = 0x80000000 →
    decode (.command w) = .ok (.tins (w.extractLsb' 26 2) (w.extractLsb' 16 9) (w.extractLsb' 0 16))) ∧
  (w &&& 0xF3FFFFFF = 0x90000000 → decode (.command w) = .ok (.tbld (w.extractLsb' 26 2))) ∧
  (w &&& 0xF3FFFFFF = 0xA0000000 → decode (.command w) = .ok (.trst (w.extractLsb' 26 2))) ∧
  (w &&& 0xF3FFFFFE = 0xB0000000 → decode (.command w) = .ok (.tadv (w.extractLsb' 26 2) (w.getLsbD 0))) ∧
  (w &&& 0xFFFFFFFF = 0xC0000000 → decode (.command w) = .ok .dblk) ∧
  (w &&& 0xFFFFFFFF = 0xD0000000 → decode (.command w) = .ok .dstr) ∧
  (w &&& 0xFFFFFF00 = 0xE0000000 → decode (.command w) = .ok (.rrd (w.extractLsb' 0 8))) ∧
  (w &&& 0xF0000000 = 0xF0000000 → decode (.command w) = .ok (.reservedOp (w.extractLsb' 0 28)))

/-- A command word with a reserved-zero bit set answers IllegalOperand and changes nothing.  Formalises R103. -/
def Obligations.ReservedBitRefused : Prop :=
  ∀ (s : State) (w : Word) (rest : List Word) (r : Word × Word) (b : Nat),
  s.staged = none → s.cmds = w :: rest → r ∈ opcodeMap → w.extractLsb' 28 4 = r.1.extractLsb' 28 4 →
  b < 28 → r.2.getLsbD b = true → w.getLsbD b = true →
  step s = .next (State.respond { s with cmds := rest } .illegalOperand 0)

/-- Every word with opcode 0xF answers IllegalCommand and changes nothing, in every session state.  Formalises
R286. -/
def Obligations.ReservedOpcodeIllegalCommand : Prop :=
  (∀ (s : State) (low : BitVec 28), exec (.reservedOp low) s = .next (s.respond .illegalCommand 0)) ∧
  (∀ (s : State) (w : Word) (rest : List Word), s.staged = none → s.cmds = w :: rest → w.extractLsb' 28 4 = 0xF →
    step s = .next (State.respond { s with cmds := rest } .illegalCommand 0))

/-- Each operand value check that fails answers IllegalOperand and changes nothing.  Formalises R104. -/
def Obligations.OperandOutOfRangeRefused : Prop :=
  ∀ s : State,
  (∀ (idx : BitVec 9) (val : BitVec 4) (mk : BitVec 16) (b : Bool),
    exec (.lwr 3 idx val) s = .next (s.respond .illegalOperand 0) ∧
    exec (.lrd 3 idx) s = .next (s.respond .illegalOperand 0) ∧
    exec (.cbld 3) s = .next (s.respond .illegalOperand 0) ∧
    exec (.crd 3 idx) s = .next (s.respond .illegalOperand 0) ∧
    exec (.tclr 3) s = .next (s.respond .illegalOperand 0) ∧
    exec (.tins 3 idx mk) s = .next (s.respond .illegalOperand 0) ∧
    exec (.tbld 3) s = .next (s.respond .illegalOperand 0) ∧
    exec (.trst 3) s = .next (s.respond .illegalOperand 0) ∧
    exec (.tadv 3 b) s = .next (s.respond .illegalOperand 0)) ∧
  (∀ (sel : BitVec 2) (k : Sel) (idx : BitVec 9) (val : BitVec 4) (mk : BitVec 16),
    Config.selOf sel = some k → Config.asize k ≤ idx.toNat →
    exec (.lwr sel idx val) s = .next (s.respond .illegalOperand 0) ∧
    exec (.lrd sel idx) s = .next (s.respond .illegalOperand 0) ∧
    exec (.crd sel idx) s = .next (s.respond .illegalOperand 0) ∧
    exec (.tins sel idx mk) s = .next (s.respond .illegalOperand 0)) ∧
  (∀ (sel : BitVec 2) (k : Sel) (idx : BitVec 9) (val : BitVec 4),
    Config.selOf sel = some k → Config.lmax k < val.toNat →
    exec (.lwr sel idx val) s = .next (s.respond .illegalOperand 0)) ∧
  (∀ (keep : Bool) (n : BitVec 6), 32 < n.toNat → exec (.brd keep n) s = .next (s.respond .illegalOperand 0)) ∧
  (∀ (sel : BitVec 2) (sym : BitVec 9) (mk : BitVec 16), mk.toNat < 2 →
    exec (.tins sel sym mk) s = .next (s.respond .illegalOperand 0)) ∧
  (∀ (sel : BitVec 2) (k : Sel) (sym : BitVec 9) (mk : BitVec 16) (l c : Nat), Config.selOf sel = some k →
    mk.toNat = 2 ^ l + c → c < 2 ^ l → Config.lmax k < l →
    exec (.tins sel sym mk) s = .next (s.respond .illegalOperand 0)) ∧
  (∀ rn : BitVec 8, 0x16 < rn.toNat → exec (.rrd rn) s = .next (s.respond .illegalOperand 0))

/-- A step takes the first waiting command word and runs the instruction it decodes to; with none waiting it is
idle.  Rests on 20_memory.md R68, 00_scope.md R5, 60_exceptions.md R297.  The staged value and the idle step
are the model's choices (notes/assumptions/1 and 8). -/
def Obligations.StepRunsDecodedInstruction : Prop :=
  (∀ (s : State) (w : Word) (rest : List Word) (i : Instr), s.staged = none → s.cmds = w :: rest →
    decode (.command w) = .ok i → step s = exec i { s with cmds := rest }) ∧
  (∀ (s : State) (v : Staged) (i : Instr), s.staged = some v → decode (.symbol v.kind v.value) = .ok i →
    step s = exec i { s with staged := none }) ∧
  (∀ s : State, s.staged = none → s.cmds = [] → step s = .next s)

/-- The command words written out in the spec decode to the commands they stand for.  Rests on 41_canonical.md
R161 R162 R163 R164, 42_tree.md R181 R185 R188 R189 R191, 40_bitreader.md R151, 44_control.md R261 R262 R263,
30_encoding.md R124. -/
def Obligations.SampleWordsDecode : Prop :=
  decode (.command 0x00000000) = .ok .nop ∧
  decode (.command 0x10000000) = .ok .srst ∧
  decode (.command 0x20000003) = .ok (.brd false 3) ∧
  decode (.command 0x20000047) = .ok (.brd true 7) ∧
  decode (.command 0x34410001) = .ok (.lwr 1 65 1) ∧
  decode (.command 0x44410000) = .ok (.lrd 1 65) ∧
  decode (.command 0x54000000) = .ok (.cbld 1) ∧
  decode (.command 0x64060000) = .ok (.crd 1 6) ∧
  decode (.command 0x74000000) = .ok (.tclr 1) ∧
  decode (.command 0x84430005) = .ok (.tins 1 67 5) ∧
  decode (.command 0x94000000) = .ok (.tbld 1) ∧
  decode (.command 0xA8000000) = .ok (.trst 2) ∧
  decode (.command 0xB4000001) = .ok (.tadv 1 true) ∧
  decode (.command 0xC0000000) = .ok .dblk ∧
  decode (.command 0xD0000000) = .ok .dstr ∧
  decode (.command 0xE0000006) = .ok (.rrd 6) ∧
  decode (.symbol .btype 2) = .ok .blockDynamic ∧
  decode (.symbol .cl 0x10) = .ok .clRep16 ∧
  decode (.symbol .ll 0xA1) = .ok .llLit161 ∧
  decode (.symbol .ll 0x105) = .ok .llLen261 ∧
  decode (.symbol .dist 3) = .ok .distD3

/-- Every step of every state answers a next state: no command gets stuck on a finite input.  Rests on 00_scope.md
R5, 70_reset_and_hazards.md R322, 43_deflate.md R218 R226 R237, 42_tree.md R192. -/
def Obligations.EveryStepAnswers : Prop :=
  ∀ s : State, ∃ t, step s = .next t

/-- NOP answers OK with result 0 and changes nothing, in every session state.  Rests on 44_control.md R261. -/
def Obligations.NopOnlyAnswers : Prop :=
  ∀ s : State, exec .nop s = .next { s with resp := some { status := .ok, result := 0 } }

/-- SRST from any state gives the power-on state.  Rests on 70_reset_and_hazards.md R312, 44_control.md R262.
That the ports stay is the model's choice (notes/assumptions/5). -/
def Obligations.SrstIsPowerOnReset : Prop :=
  ∀ s : State, exec .srst s = .next
    { State.reset with
      cmds := s.cmds
      input := s.input
      output := s.output
      resp := some { status := .ok, result := 0 } }

/-- Power-on reset and SRST set every piece of state to its reset value.  Formalises R49. -/
def Obligations.ResetValuesOfEveryRegister : Prop :=
  ∀ t : State, (t = State.reset ∨ ∃ s : State, exec .srst s = .next t) →
  t.sstate = .ready ∧ t.errCode = 0 ∧ t.errBlock = 0 ∧ t.errPhase = 0 ∧ t.errBitpos = 0 ∧
  t.brAcc = 0 ∧ t.brCnt = 0 ∧ t.bitpos = 0 ∧ t.blkcnt = 0 ∧ t.bhdr = 0 ∧ t.phase.toBits = 0 ∧
  (∀ (k : Sel) (i : Nat), i < Config.asize k → t.lenAt k i = 0 ∧ t.codeAt k i = { clen := 0, cval := 0 }) ∧
  (∀ k : Sel, (t.tree k).ncnt = 1 ∧ (t.tree k).node 0 = .internal none none ∧ (t.tree k).cur = 0) ∧
  (∀ i, Memory.lookup t.win i = none) ∧ t.wptr = 0 ∧ t.wfill = 0 ∧ t.outcnt = 0

/-- RRD answers the image of each of the 23 registers and changes nothing; a reserved number is refused.  Rests on
10_state.md R47, 44_control.md R263 R264, 20_memory.md R62 R72. -/
def Obligations.RrdAnswersRegisterImage : Prop :=
  ∀ s : State,
  exec (.rrd 0x00) s = .next (s.respond .ok (match s.sstate with | .ready => 0 | .done => 1 | .faulted => 2)) ∧
  exec (.rrd 0x01) s = .next (s.respond .ok (s.errCode.setWidth 32)) ∧
  exec (.rrd 0x02) s = .next (s.respond .ok s.errBlock) ∧
  exec (.rrd 0x03) s = .next (s.respond .ok (s.errPhase.setWidth 32)) ∧
  exec (.rrd 0x04) s = .next (s.respond .ok (s.errBitpos.extractLsb' 0 32)) ∧
  exec (.rrd 0x05) s = .next (s.respond .ok (s.errBitpos.extractLsb' 32 32)) ∧
  exec (.rrd 0x06) s = .next (s.respond .ok (s.bitpos.extractLsb' 0 32)) ∧
  exec (.rrd 0x07) s = .next (s.respond .ok (s.bitpos.extractLsb' 32 32)) ∧
  exec (.rrd 0x08) s = .next (s.respond .ok (s.brCnt.setWidth 32)) ∧
  exec (.rrd 0x09) s = .next (s.respond .ok (s.brAcc.extractLsb' 0 32)) ∧
  exec (.rrd 0x0A) s = .next (s.respond .ok ((s.brAcc >>> 32).setWidth 32)) ∧
  exec (.rrd 0x0B) s = .next (s.respond .ok s.blkcnt) ∧
  exec (.rrd 0x0C) s = .next (s.respond .ok (s.bhdr.setWidth 32)) ∧
  exec (.rrd 0x0D) s = .next (s.respond .ok (s.wfill.setWidth 32)) ∧
  exec (.rrd 0x0E) s = .next (s.respond .ok (s.wptr.setWidth 32)) ∧
  exec (.rrd 0x0F) s = .next (s.respond .ok (s.outcnt.extractLsb' 0 32)) ∧
  exec (.rrd 0x10) s = .next (s.respond .ok (s.outcnt.extractLsb' 32 32)) ∧
  exec (.rrd 0x11) s = .next (s.respond .ok (s.treeCL.ncnt.setWidth 32)) ∧
  exec (.rrd 0x12) s = .next (s.respond .ok (s.treeLL.ncnt.setWidth 32)) ∧
  exec (.rrd 0x13) s = .next (s.respond .ok (s.treeDIST.ncnt.setWidth 32)) ∧
  exec (.rrd 0x14) s = .next (s.respond .ok (s.treeCL.cur.setWidth 32)) ∧
  exec (.rrd 0x15) s = .next (s.respond .ok (s.treeLL.cur.setWidth 32)) ∧
  exec (.rrd 0x16) s = .next (s.respond .ok (s.treeDIST.cur.setWidth 32)) ∧
  (∀ rn : BitVec 8, 0x17 ≤ rn.toNat → exec (.rrd rn) s = .next (s.respond .illegalOperand 0))

/-- ReadBits gives the next n stream bits, first bit lowest, and a peek consumes none of them.  Formalises R70,
R144. -/
def Obligations.ReadBitsServesStream : Prop :=
  ∀ (s : State) (n : Nat) (keep : Bool), n ≤ 32 → s.readerOk → n ≤ s.bitsLeft →
  ∃ t, readBits n keep s = .ok (bitsValue (s.streamBits.take n)) t ∧ t.readerOk ∧
    t.streamBits = (if keep then s.streamBits else s.streamBits.drop n) ∧
    t.bitpos = (if keep then s.bitpos else s.bitpos + BitVec.ofNat 64 n) ∧
    t.input = s.input.drop ((n - s.brCnt.toNat + 7) / 8) ∧
    SameOutsideReader s t ∧ t.resp = s.resp

/-- BRD answers the next N stream bits, consuming them unless K = 1.  Rests on 40_bitreader.md R145 R142 R144,
30_encoding.md R96. -/
def Obligations.BrdReadsBits : Prop :=
  ∀ (s : State) (keep : Bool) (n : BitVec 6), s.sstate ≠ .faulted → n.toNat ≤ 32 → s.readerOk →
  n.toNat ≤ s.bitsLeft →
  ∃ t, exec (.brd keep n) s = .next t ∧
    t.resp = some { status := .ok, result := BitVec.ofNat 32 (bitsValue (s.streamBits.take n.toNat)) } ∧
    t.readerOk ∧ t.streamBits = (if keep then s.streamBits else s.streamBits.drop n.toNat) ∧
    t.bitpos = (if keep then s.bitpos else s.bitpos + BitVec.ofNat 64 n.toNat) ∧
    t.input = s.input.drop ((n.toNat - s.brCnt.toNat + 7) / 8) ∧
    SameOutsideReader s t

/-- A read that outruns the input fails with UnexpectedEndOfInput and consumes no bit.  Formalises R143. -/
def Obligations.ReadBitsEndOfInput : Prop :=
  ∀ (s : State) (n : Nat) (keep : Bool), n ≤ 32 → s.readerOk → s.bitsLeft < n →
  ∃ t, readBits n keep s = .err .unexpectedEndOfInput t ∧ t.input = [] ∧ t.readerOk ∧
    t.streamBits = s.streamBits ∧ t.bitpos = s.bitpos ∧ SameOutsideReader s t ∧ t.resp = s.resp ∧
    (s.sstate ≠ .faulted → ∃ u, exec (.brd keep (BitVec.ofNat 6 n)) s = .next u ∧
      ErrorLatched .unexpectedEndOfInput 7 t u)

/-- A read of zero bits gives 0, fetches nothing and changes nothing, even at the end of the input.  Formalises
R146. -/
def Obligations.ZeroBitReadIsNothing : Prop :=
  ∀ (s : State) (keep : Bool), readBits 0 keep s = .ok 0 s ∧
  (s.sstate ≠ .faulted → exec (.brd keep 0) s = .next (s.respond .ok 0))

/-- Splitting a read into several does not change the bits, and a peek between changes no later result.  Rests on
40_bitreader.md R148.  The spec marks R148 as derived from R142 and R144. -/
def Obligations.SplitReadsAgree : Prop :=
  ∀ (s : State) (ns : List Nat), s.readerOk → (∀ n ∈ ns, n ≤ 32) → ns.sum ≤ s.bitsLeft →
  (∃ t, readAll ns s = .ok (bitsValue (s.streamBits.take ns.sum)) t ∧ t.streamBits = s.streamBits.drop ns.sum) ∧
  (∀ p, p ≤ 32 → p ≤ s.bitsLeft → ∃ v s' t, readBits p true s = .ok v s' ∧
    readAll ns s' = .ok (bitsValue (s.streamBits.take ns.sum)) t ∧ t.streamBits = s.streamBits.drop ns.sum)

/-- After a consuming read that fetched, at most 7 bits stay buffered; otherwise at most 39.  Rests on
40_bitreader.md R149.  The spec marks R149 as derived from R142. -/
def Obligations.ConsumingReadLeavesUnderByte : Prop :=
  ∀ (s t : State) (n v : Nat) (keep : Bool), n ≤ 32 → readBits n keep s = .ok v t →
  (keep = false → t.input ≠ s.input → t.brCnt.toNat ≤ 7) ∧ (s.readerOk → t.brCnt.toNat ≤ 39)

/-- BITPOS is always 8 times the bytes fetched since reset, less the bits still buffered, modulo 2^64.  Rests on
40_bitreader.md R150.  The spec marks R150 as derived from R142. -/
def Obligations.BitposCountsFetchedBits : Prop :=
  (∀ (i : Instr) (s t : State) (f : Nat), i ≠ .srst →
    s.bitpos = BitVec.ofNat 64 (8 * f) - s.brCnt.setWidth 64 → exec i s = .next t →
    t.input.length ≤ s.input.length ∧
    t.bitpos = BitVec.ofNat 64 (8 * (f + (s.input.length - t.input.length))) - t.brCnt.setWidth 64) ∧
  (∀ s t : State, exec .srst s = .next t → t.bitpos = BitVec.ofNat 64 (8 * 0) - t.brCnt.setWidth 64) ∧
  State.reset.bitpos = BitVec.ofNat 64 (8 * 0) - State.reset.brCnt.setWidth 64

/-- LWR writes the one length it names and nothing else.  Rests on 41_canonical.md R161, 30_encoding.md R94 R95. -/
def Obligations.LwrWritesOneLength : Prop :=
  ∀ (s : State) (sel : BitVec 2) (k : Sel) (idx : BitVec 9) (val : BitVec 4), Config.selOf sel = some k →
  idx.toNat < Config.asize k → val.toNat ≤ Config.lmax k →
  ∃ t, exec (.lwr sel idx val) s = .next t ∧ t.resp = some { status := .ok, result := 0 } ∧
    t.lenAt k idx.toNat = val ∧ (∀ j m, (j ≠ k ∨ m ≠ idx.toNat) → t.lenAt j m = s.lenAt j m) ∧
    SameCodes s t ∧ SameTrees s t ∧ SameStream s t

/-- LRD answers one length, CRD one code entry, and neither changes anything else.  Rests on 41_canonical.md R162
R163, 30_encoding.md R105. -/
def Obligations.LrdCrdReadOneEntry : Prop :=
  ∀ (s : State) (sel : BitVec 2) (k : Sel) (idx : BitVec 9), Config.selOf sel = some k →
  idx.toNat < Config.asize k →
  exec (.lrd sel idx) s = .next (s.respond .ok ((s.lenAt k idx.toNat).setWidth 32)) ∧
  exec (.crd sel idx) s = .next (s.respond .ok
    (((s.codeAt k idx.toNat).clen.setWidth 32 <<< 24) ||| (s.codeAt k idx.toNat).cval.setWidth 32))

/-- CBLD gives every symbol its canonical code, a function of the lengths alone, and changes nothing else.  Rests
on 41_canonical.md R164 R165 R166 R167 R169 R170.  The bound 2^23 is the spec's own inference (41_canonical.md
R166, which the spec marks as derived). -/
def Obligations.CbldAssignsCanonicalCodes : Prop :=
  ∀ (s : State) (sel : BitVec 2) (k : Sel), Config.selOf sel = some k →
  ∃ t, exec (.cbld sel) s = .next t ∧ t.resp = some { status := .ok, result := 0 } ∧
    (∀ i, i < Config.asize k →
      (s.lenAt k i = 0 → t.codeAt k i = { clen := 0, cval := 0 }) ∧
      (s.lenAt k i ≠ 0 → (t.codeAt k i).clen = s.lenAt k i ∧
        (t.codeAt k i).cval.toNat = codeValue (s.lens k) i ∧ codeValue (s.lens k) i < 2 ^ 23)) ∧
    (∀ l, 1 ≤ l → l ≤ 15 → firstCode (s.lens k) l + (s.lens k).count l < 2 ^ 23) ∧
    (∀ j, j ≠ k → t.codes j = s.codes j) ∧ SameLengths s t ∧ SameTrees s t ∧ SameStream s t

/-- Equal lengths: the lower symbol has the smaller code; longer codes exceed the extended shorter ones.
Formalises R167. -/
def Obligations.CodesAscendWithSymbol : Prop :=
  ∀ (s t : State) (sel : BitVec 2) (k : Sel) (i j : Nat), Config.selOf sel = some k →
  exec (.cbld sel) s = .next t → i < Config.asize k → j < Config.asize k → s.lenAt k i ≠ 0 → s.lenAt k j ≠ 0 →
  (s.lenAt k i = s.lenAt k j → i < j → (t.codeAt k j).cval.toNat =
    (t.codeAt k i).cval.toNat + (((s.lens k).take j).drop i).count (s.lenAt k i).toNat) ∧
  (s.lenAt k i = s.lenAt k j → i < j → (t.codeAt k i).cval.toNat < (t.codeAt k j).cval.toNat) ∧
  ((s.lenAt k j).toNat + 1 = (s.lenAt k i).toNat → ∀ b : Bool,
    2 * (t.codeAt k j).cval.toNat + b.toNat < (t.codeAt k i).cval.toNat)

/-- Some canonical code is too large for its length exactly when Kraft's inequality is broken; if not, prefix-
free.  Rests on 41_canonical.md R168.  The spec marks R168 as derived from R165. -/
def Obligations.OverSubscribedIffKraftBroken : Prop :=
  ∀ (s t : State) (sel : BitVec 2) (k : Sel), Config.selOf sel = some k → exec (.cbld sel) s = .next t →
  ((∃ i, i < Config.asize k ∧ (t.codeAt k i).clen ≠ 0 ∧
      2 ^ (t.codeAt k i).clen.toNat ≤ (t.codeAt k i).cval.toNat) ↔ 2 ^ 15 < kraftSum (s.lens k)) ∧
  (kraftSum (s.lens k) ≤ 2 ^ 15 → ∀ i j, i < Config.asize k → j < Config.asize k → i ≠ j →
    (t.codeAt k i).clen ≠ 0 → (t.codeAt k j).clen ≠ 0 →
    ¬ codeBits (t.codeAt k i).clen.toNat (t.codeAt k i).cval.toNat <+:
      codeBits (t.codeAt k j).clen.toNat (t.codeAt k j).cval.toNat) ∧
  (2 ^ 15 < kraftSum (s.lens k) → ∃ u e, exec (.tbld sel) t = .next u ∧
    u.resp = some { status := e, result := 0 } ∧ e ≠ .ok)

/-- CBLD then TBLD succeeds exactly when the lengths keep Kraft's inequality, and every code then decodes.  Rests
on 42_tree.md R187 R188 R186, 41_canonical.md R168, 30_encoding.md R108. -/
def Obligations.TableLoadSucceedsIffKraftHolds : Prop :=
  ∀ (s0 s : State) (sel : BitVec 2) (k : Sel), Config.selOf sel = some k → exec (.cbld sel) s0 = .next s →
  (kraftSum (s.lens k) ≤ 2 ^ 15 → ∃ t, exec (.tbld sel) s = .next t ∧
    t.resp = some { status := .ok, result := 0 } ∧ SameStream s t ∧
    ∀ i, i < Config.asize k → (s.codeAt k i).clen ≠ 0 →
      (t.tree k).codeOf (codeBits (s.codeAt k i).clen.toNat (s.codeAt k i).cval.toNat) (BitVec.ofNat 9 i)) ∧
  (2 ^ 15 < kraftSum (s.lens k) → ∃ t, exec (.tbld sel) s = .next t ∧
    t.resp = some { status := .prefixCodeViolation, result := 0 } ∧ SameStream s t)

/-- TBLD completes with every code inserted when none fails; else it stops at the first that fails, those below it
inserted.  Rests on 42_tree.md R186 R187 R188, 60_exceptions.md R281 R284, 70_reset_and_hazards.md R319.  That
code lengths are within LMAX (State.codesOk) is part of the invariant that CommandsKeepInvariants and
ResetMeetsInvariants state.  The spec marks R186 as derived. -/
def Obligations.TbldRebuildsTree : Prop :=
  ∀ (s : State) (sel : BitVec 2) (k : Sel), Config.selOf sel = some k → s.codesOk →
  ((∀ i, i < Config.asize k → ¬ s.codeFails k i) →
    ∃ t, exec (.tbld sel) s = .next t ∧ t.resp = some { status := .ok, result := 0 } ∧
      CodesInserted k (Config.asize k) s t) ∧
  (∀ m, m < Config.asize k → s.codeFails k m → (∀ i, i < m → ¬ s.codeFails k i) →
    ∃ t, exec (.tbld sel) s = .next t ∧ t.resp = some { status := .prefixCodeViolation, result := 0 } ∧
      CodesInserted k m s t)

/-- BuildTree never raises TreeCapacityExceeded.  Rests on 42_tree.md R186.  The spec marks R186 as derived from
R182 and R184. -/
def Obligations.BuildNeverExceedsCapacity : Prop :=
  (∀ (s : State) (k : Sel), (∀ e ∈ s.codes k, e.clen.toNat ≤ Config.lmax k) →
    (∀ t, buildTree k s ≠ .err .treeCapacityExceeded t) ∧
    (buildTree k s).Holds fun t => (t.tree k).nodes.length ≤ Config.nodecap k) ∧
  (∀ k : Sel, Config.nodecap k = ((List.range (Config.lmax k + 1)).map fun d => min (2 ^ d) (Config.asize k)).sum) ∧
  Config.nodecap .cl = 88 ∧ Config.nodecap .ll = 2527 ∧ Config.nodecap .dist = 383

/-- TCLR leaves only the root with the cursor on it; TRST moves only the cursor, to the root.  Rests on 42_tree.md
R181 R189. -/
def Obligations.TclrTrstResetTree : Prop :=
  ∀ (s : State) (sel : BitVec 2) (k : Sel), Config.selOf sel = some k →
  (∃ t, exec (.tclr sel) s = .next t ∧ t.resp = some { status := .ok, result := 0 } ∧
    (t.tree k).nodes = [.internal none none] ∧ (t.tree k).ncnt = 1 ∧ (t.tree k).cur = 0 ∧
    (∀ j, j ≠ k → t.tree j = s.tree j) ∧ SameLengths s t ∧ SameCodes s t ∧ SameStream s t) ∧
  (∃ t, exec (.trst sel) s = .next t ∧ t.resp = some { status := .ok, result := 0 } ∧
    (t.tree k).nodes = (s.tree k).nodes ∧ (t.tree k).cur = 0 ∧
    (∀ j, j ≠ k → t.tree j = s.tree j) ∧ SameLengths s t ∧ SameCodes s t ∧ SameStream s t)

/-- TINS inserts, finds the code present, or finds a prefix violation, by where the code leads in the tree.
Formalises R183. -/
def Obligations.TinsOutcomes : Prop :=
  ∀ (s : State) (sel : BitVec 2) (k : Sel) (sym : BitVec 9) (mk : BitVec 16) (l c : Nat),
  Config.selOf sel = some k → sym.toNat < Config.asize k → 1 ≤ l → l ≤ Config.lmax k → c < 2 ^ l →
  mk.toNat = 2 ^ l + c → (s.tree k).wf (Config.nodecap k) →
  (∀ n old, (s.tree k).walk 0 (codeBits l c) = some n → (s.tree k).leafAt n old →
    exec (.tins sel sym mk) s = .next (s.respond .ok 1)) ∧
  (∀ n c0 c1, (s.tree k).walk 0 (codeBits l c) = some n → (s.tree k).node n = .internal c0 c1 →
    exec (.tins sel sym mk) s = .next (s.respond .ok 2)) ∧
  (∀ j n old, j < l → (s.tree k).walk 0 ((codeBits l c).take j) = some n → (s.tree k).leafAt n old →
    exec (.tins sel sym mk) s = .next (s.respond .ok 2)) ∧
  (∀ j n c0 c1, j < l → (s.tree k).walk 0 ((codeBits l c).take j) = some n →
    (s.tree k).node n = .internal c0 c1 → ((s.tree k).node n).child (c.testBit (l - 1 - j)) = none →
    (Config.nodecap k < (s.tree k).nodes.length + (l - j) →
      exec (.tins sel sym mk) s = .next (s.respond .treeCapacityExceeded 0)) ∧
    ((s.tree k).nodes.length + (l - j) ≤ Config.nodecap k →
      ∃ t, exec (.tins sel sym mk) s = .next t ∧ t.resp = some { status := .ok, result := 0 } ∧
        (t.tree k).nodes.length = (s.tree k).nodes.length + (l - j) ∧ (t.tree k).cur = (s.tree k).cur ∧
        (∀ bits old, (t.tree k).codeOf bits old ↔
          (bits = codeBits l c ∧ old = sym) ∨ (s.tree k).codeOf bits old) ∧
        (t.tree k).wf (Config.nodecap k) ∧
        (∀ j, j ≠ k → t.tree j = s.tree j) ∧ SameLengths s t ∧ SameCodes s t ∧ SameStream s t))

/-- TADV moves the cursor to the child of the bit: Pending, the leaf's symbol, or Invalid with the cursor kept.
Formalises R190. -/
def Obligations.TadvMovesCursor : Prop :=
  ∀ (s : State) (sel : BitVec 2) (k : Sel) (b : Bool), Config.selOf sel = some k →
  (∀ sym, (s.tree k).node (s.tree k).cur = .leaf sym →
    exec (.tadv sel b) s = .next (s.respond .ok 0x80000000)) ∧
  (∀ c0 c1, (s.tree k).node (s.tree k).cur = .internal c0 c1 → (if b then c1 else c0) = none →
    exec (.tadv sel b) s = .next (s.respond .ok 0x80000000)) ∧
  (∀ c0 c1 m sym, (s.tree k).node (s.tree k).cur = .internal c0 c1 → (if b then c1 else c0) = some m →
    (s.tree k).node m = .leaf sym →
    exec (.tadv sel b) s = .next
      (State.respond (s.setTree k { s.tree k with cur := m }) .ok (0x40000000 ||| sym.setWidth 32))) ∧
  (∀ c0 c1 m d0 d1, (s.tree k).node (s.tree k).cur = .internal c0 c1 → (if b then c1 else c0) = some m →
    (s.tree k).node m = .internal d0 d1 →
    exec (.tadv sel b) s = .next (State.respond (s.setTree k { s.tree k with cur := m }) .ok 0))

/-- DecodeSymbol consumes exactly a code's bits and gives its symbol, or fails at the first bit without a child.
Rests on 42_tree.md R192 R193 R194, 20_memory.md R71. -/
def Obligations.DecodeSymbolFollowsCode : Prop :=
  ∀ (s : State) (k : Sel), s.readerOk → (s.tree k).wf (Config.nodecap k) →
  (∀ bits rest sym, (s.tree k).codeOf bits sym → s.streamBits = bits ++ rest →
    ∃ t, decodeSymbol k s = .ok sym t ∧ t.streamBits = rest ∧ t.readerOk ∧
      t.bitpos = s.bitpos + BitVec.ofNat 64 bits.length ∧
      (s.tree k).walk 0 bits = some (t.tree k).cur ∧ SameOutsideTraversal k s t) ∧
  (∀ bits b rest n c0 c1, (s.tree k).walk 0 bits = some n → (s.tree k).node n = .internal c0 c1 →
    ((s.tree k).node n).child b = none → s.streamBits = bits ++ b :: rest →
    ∃ t, decodeSymbol k s = .err .invalidSymbolCode t ∧ t.streamBits = rest ∧ t.readerOk ∧
      t.bitpos = s.bitpos + BitVec.ofNat 64 (bits.length + 1) ∧ (t.tree k).cur = n ∧ SameOutsideTraversal k s t) ∧
  (∀ n c0 c1, (s.tree k).walk 0 s.streamBits = some n → (s.tree k).node n = .internal c0 c1 →
    ∃ t, decodeSymbol k s = .err .unexpectedEndOfInput t ∧ t.streamBits = [] ∧ t.readerOk ∧
      t.bitpos = s.bitpos + BitVec.ofNat 64 s.streamBits.length ∧ (t.tree k).cur = n ∧ SameOutsideTraversal k s t)

/-- A block of type 0, 1 or 3 is rejected with UnsupportedBlockType after exactly 3 header bits.  Rests on
43_deflate.md R213 R214, 30_encoding.md R124.  That a stream row runs on its own is the model's choice
(notes/assumptions/8). -/
def Obligations.BlockTypeRejected : Prop :=
  (∀ (s : State) (bfinal b0 b1 : Bool) (rest : List Bool), s.sstate = .ready → s.readerOk →
    s.streamBits = bfinal :: b0 :: b1 :: rest → bitsValue [b0, b1] ≠ 2 →
    ∃ t, exec .dblk s = .next t ∧ t.sstate = .faulted ∧
      t.resp = some { status := .unsupportedBlockType, result := 0 } ∧
      t.errCode = 3 ∧ t.errPhase = 0 ∧ t.errBlock = s.blkcnt ∧ t.errBitpos = s.bitpos + 3 ∧
      t.bitpos = s.bitpos + 3 ∧ t.streamBits = rest ∧ t.blkcnt = s.blkcnt ∧
      (t.bhdr.extractLsb' 0 3).toNat = bitsValue [bfinal, b0, b1] ∧
      t.bhdr.extractLsb' 3 14 = s.bhdr.extractLsb' 3 14 ∧
      SameLengths s t ∧ SameCodes s t ∧ SameTrees s t ∧ SameWindow s t ∧ t.cmds = s.cmds) ∧
  (∀ (s : State) (i : Instr), i = .blockStored ∨ i = .blockFixed ∨ i = .blockReserved →
    ∃ t, exec i s = .next t ∧ ErrorLatched .unsupportedBlockType s.phase.toBits s t)

/-- Block type 2 reads HLIT, HDIST and HCLEN into BHDR and sets the three counts.  Rests on 43_deflate.md R215,
30_encoding.md R112 R124.  That a stream row runs on its own is the model's choice (notes/assumptions/8). -/
def Obligations.DynamicHeaderReadsCounts : Prop :=
  ∀ s : State, s.readerOk →
  (14 ≤ s.bitsLeft → ∃ t, exec .blockDynamic s = .next t ∧
    (t.bhdr.extractLsb' 3 5).toNat = bitsValue (s.streamBits.take 5) ∧
    (t.bhdr.extractLsb' 8 5).toNat = bitsValue ((s.streamBits.drop 5).take 5) ∧
    (t.bhdr.extractLsb' 13 4).toNat = bitsValue ((s.streamBits.drop 10).take 4) ∧
    t.bhdr.extractLsb' 0 3 = s.bhdr.extractLsb' 0 3 ∧
    t.loc = { s.loc with
      numLL := bitsValue (s.streamBits.take 5) + 257
      numDist := bitsValue ((s.streamBits.drop 5).take 5) + 1
      numCL := bitsValue ((s.streamBits.drop 10).take 4) + 4 } ∧
    t.phase.toBits = 1 ∧ t.streamBits = s.streamBits.drop 14 ∧ t.readerOk ∧ t.bitpos = s.bitpos + 14 ∧
    t.blkcnt = s.blkcnt ∧ t.staged = s.staged ∧ SameSession s t ∧ SameLengths s t ∧ SameCodes s t ∧
    SameTrees s t ∧ SameWindow s t ∧ t.cmds = s.cmds ∧ t.resp = s.resp) ∧
  (s.bitsLeft < 14 → ∃ t, exec .blockDynamic s = .next t ∧ t.sstate = .faulted ∧ t.errCode = 2 ∧
    t.errPhase = 1 ∧ t.resp = some { status := .unexpectedEndOfInput, result := 0 })

/-- CL symbols 0 to 15 put one length equal to the symbol and remember it as lastLength.  Rests on 43_deflate.md
R218 R219, 30_encoding.md R115 R124.  That a stream row runs on its own is the model's choice
(notes/assumptions/8). -/
def Obligations.LengthSymbolPutsItself : Prop :=
  ∀ (s : State) (i : Instr) (v : BitVec 9), encode i = .symbol .cl v → v.toNat ≤ 15 →
  exec i s = .next
    { s with
      lenLL := if s.loc.k < s.loc.numLL then s.lenLL.setIfInBounds s.loc.k (v.setWidth 4) else s.lenLL
      lenDIST := if s.loc.k < s.loc.numLL then s.lenDIST
        else s.lenDIST.setIfInBounds (s.loc.k - s.loc.numLL) (v.setWidth 4)
      loc := { s.loc with k := s.loc.k + 1, lastLength := v.setWidth 4 } }

/-- CL 16 repeats lastLength, 17 and 18 put zeros, and a repeat past the end writes nothing and latches.  Rests on
43_deflate.md R220 R221 R222 R223, 30_encoding.md R115 R124.  That a stream row runs on its own is the model's
choice (notes/assumptions/8). -/
def Obligations.RepeatSymbolsPutRuns : Prop :=
  ∀ (s : State) (i : Instr) (e base : Nat) (v last : BitVec 4), s.readerOk →
  ((i = .clRep16 ∧ e = 2 ∧ base = 3 ∧ v = s.loc.lastLength ∧ last = s.loc.lastLength) ∨
   (i = .clRep17 ∧ e = 3 ∧ base = 3 ∧ v = 0 ∧ last = 0) ∨
   (i = .clRep18 ∧ e = 7 ∧ base = 11 ∧ v = 0 ∧ last = 0)) →
  (e ≤ s.bitsLeft →
    s.loc.k + (base + bitsValue (s.streamBits.take e)) ≤ s.loc.numLL + s.loc.numDist →
    ∃ t, exec i s = .next t ∧
      (∀ m, m < 288 → t.lenAt .ll m =
        if m < s.loc.numLL ∧ s.loc.k ≤ m ∧ m < s.loc.k + (base + bitsValue (s.streamBits.take e)) then v
        else s.lenAt .ll m) ∧
      (∀ m, m < 32 → t.lenAt .dist m =
        if s.loc.k ≤ s.loc.numLL + m ∧
          s.loc.numLL + m < s.loc.k + (base + bitsValue (s.streamBits.take e)) then v
        else s.lenAt .dist m) ∧
      t.lenCL = s.lenCL ∧
      t.loc = { s.loc with k := s.loc.k + (base + bitsValue (s.streamBits.take e)), lastLength := last } ∧
      t.streamBits = s.streamBits.drop e ∧ t.readerOk ∧ t.bitpos = s.bitpos + BitVec.ofNat 64 e ∧
      t.blkcnt = s.blkcnt ∧ t.bhdr = s.bhdr ∧ t.phase = s.phase ∧ t.staged = s.staged ∧
      SameSession s t ∧ SameCodes s t ∧ SameTrees s t ∧ SameWindow s t ∧ t.cmds = s.cmds ∧ t.resp = s.resp) ∧
  (e ≤ s.bitsLeft →
    s.loc.numLL + s.loc.numDist < s.loc.k + (base + bitsValue (s.streamBits.take e)) →
    ∃ u t, exec i s = .next t ∧ u.streamBits = s.streamBits.drop e ∧ u.bitpos = s.bitpos + BitVec.ofNat 64 e ∧
      SameOutsideReader s { u with loc := s.loc } ∧ ErrorLatched .codeLengthOverrun s.phase.toBits u t) ∧
  (s.bitsLeft < e → ∃ u t, exec i s = .next t ∧ u.streamBits = s.streamBits ∧ u.bitpos = s.bitpos ∧
    SameOutsideReader s u ∧ ErrorLatched .unexpectedEndOfInput s.phase.toBits u t)

/-- No command answers InvalidMagicOrMethod, and none answers InvalidCodeLengthSymbol, though the check is there.
Formalises R290. -/
def Obligations.CodesNeverReturned : Prop :=
  (∀ (s t : State) (w : Word) (rest : List Word), s.staged = none → s.cmds = w :: rest → step s = .next t →
    ∃ r, t.resp = some r ∧ r.status ≠ .invalidMagicOrMethod ∧ r.status ≠ .invalidCodeLengthSymbol) ∧
  (∀ (s : State) (v : Nat), 18 < v → clSymbol v s = .err .invalidCodeLengthSymbol s)

/-- Each literal row appends its byte to the window and the output and changes nothing else.  Rests on
43_deflate.md R227 R234, 10_state.md R42 R43 R44 R45, 30_encoding.md R124.  That a stream row runs on its own
is the model's choice (notes/assumptions/8). -/
def Obligations.LiteralAppendsByte : Prop :=
  ∀ (s : State) (i : Instr) (v : BitVec 9), encode i = .symbol .ll v → v.toNat ≤ 255 →
  ∃ t, exec i s = .next t ∧
    (∀ j, Memory.read t.win j = if j = s.wptr.toNat then v.setWidth 8 else Memory.read s.win j) ∧
    t.wptr.toNat = (s.wptr.toNat + 1) % 32768 ∧ t.wfill.toNat = min (s.wfill.toNat + 1) 32768 ∧
    t.output = s.output ++ [v.setWidth 8] ∧ t.outcnt = s.outcnt + 1 ∧
    SameSession s t ∧ SameReader s t ∧ SameBlock s t ∧ SameLengths s t ∧ SameCodes s t ∧ SameTrees s t ∧
    t.cmds = s.cmds ∧ t.resp = s.resp

/-- End of block: PHASE is 6, BLKCNT one more, and SSTATE is DONE when BHDR[0] is 1.  Rests on 43_deflate.md R228
R236, 30_encoding.md R124.  That a stream row runs on its own is the model's choice (notes/assumptions/8). -/
def Obligations.EndOfBlockCountsBlock : Prop :=
  ∀ s : State, ∃ t, exec .llEob s = .next t ∧ t.phase.toBits = 6 ∧ t.blkcnt = s.blkcnt + 1 ∧
  (s.bhdr.getLsbD 0 = true → t.sstate = .done) ∧ (s.bhdr.getLsbD 0 = false → t.sstate = s.sstate) ∧
  t = { s with phase := t.phase, blkcnt := t.blkcnt, sstate := t.sstate }

/-- A length code sets the length to its base plus its extra bits, a value from 3 to 258.  Rests on 43_deflate.md
R229, 30_encoding.md R118 R124.  That a stream row runs on its own is the model's choice
(notes/assumptions/8). -/
def Obligations.LengthCodeSetsLength : Prop :=
  ∀ (s : State) (i : Instr) (v : BitVec 9), s.readerOk → encode i = .symbol .ll v → 257 ≤ v.toNat →
  v.toNat ≤ 285 → ∃ e base, lengthTable[v.toNat - 257]? = some (e, base) ∧
  (e ≤ s.bitsLeft → ∃ t, exec i s = .next t ∧
    t.loc = { s.loc with length := base + bitsValue (s.streamBits.take e) } ∧
    3 ≤ t.loc.length ∧ t.loc.length ≤ 258 ∧
    t.streamBits = s.streamBits.drop e ∧ t.readerOk ∧ t.bitpos = s.bitpos + BitVec.ofNat 64 e ∧
    SameOutsideReader s { t with loc := s.loc } ∧ t.resp = s.resp) ∧
  (s.bitsLeft < e → ∃ u t, exec i s = .next t ∧ u.streamBits = s.streamBits ∧ u.bitpos = s.bitpos ∧
    SameOutsideReader s u ∧ ErrorLatched .unexpectedEndOfInput s.phase.toBits u t)

/-- A distance greater than the bytes produced so far latches BackReferenceOutOfRange before any byte is copied.
Rests on 43_deflate.md R231 R232 R233, 30_encoding.md R119 R124.  That a stream row runs on its own is the
model's choice (notes/assumptions/8).  The last clause, that the copy reads only written indices, is the
spec's own inference (marked derived in R233). -/
def Obligations.DistanceTooFarLatches : Prop :=
  ∀ (s : State) (i : Instr) (v : BitVec 9) (e base : Nat), s.readerOk → encode i = .symbol .dist v →
  distanceTable[v.toNat]? = some (e, base) → e ≤ s.bitsLeft →
  (s.wfill.toNat < base + bitsValue (s.streamBits.take e) →
    ∃ u t, exec i s = .next t ∧ u.streamBits = s.streamBits.drop e ∧ u.bitpos = s.bitpos + BitVec.ofNat 64 e ∧
      SameOutsideReader s u ∧ ErrorLatched .backReferenceOutOfRange s.phase.toBits u t) ∧
  (base + bitsValue (s.streamBits.take e) ≤ s.wfill.toNat → s.windowOk →
    (∃ t, exec i s = .next t ∧ SameSession s t) ∧
    ∀ d, 1 ≤ d → d ≤ base + bitsValue (s.streamBits.take e) → Memory.lookup s.win (s.behind d) ≠ none)

/-- A distance code in range repeats the output from that distance back, overlapping copies included.  Rests on
43_deflate.md R232 R234 R235, 20_memory.md R64 R78.  That a stream row runs on its own is the model's choice
(notes/assumptions/8). -/
def Obligations.BackReferenceCopiesOutput : Prop :=
  ∀ (s : State) (i : Instr) (v : BitVec 9) (e base : Nat), s.readerOk → s.windowOk →
  encode i = .symbol .dist v → distanceTable[v.toNat]? = some (e, base) →
  (e ≤ s.bitsLeft → base + bitsValue (s.streamBits.take e) ≤ s.wfill.toNat →
    ∃ t, exec i s = .next t ∧
      t.output.length = s.output.length + s.loc.length ∧ s.output <+: t.output ∧
      (∀ j, j < s.loc.length → t.output[s.output.length + j]? =
        t.output[s.output.length + j - (base + bitsValue (s.streamBits.take e))]?) ∧
      t.windowOk ∧ t.wptr = s.wptr + BitVec.ofNat 15 s.loc.length ∧
      t.wfill.toNat = min (s.wfill.toNat + s.loc.length) 32768 ∧
      t.outcnt = s.outcnt + BitVec.ofNat 64 s.loc.length ∧
      t.streamBits = s.streamBits.drop e ∧ t.readerOk ∧ t.bitpos = s.bitpos + BitVec.ofNat 64 e ∧
      SameSession s t ∧ SameBlock s t ∧ SameLengths s t ∧ SameCodes s t ∧ SameTrees s t ∧
      t.cmds = s.cmds ∧ t.resp = s.resp) ∧
  (s.bitsLeft < e → ∃ u t, exec i s = .next t ∧ u.streamBits = s.streamBits ∧ u.bitpos = s.bitpos ∧
    SameOutsideReader s u ∧ ErrorLatched .unexpectedEndOfInput s.phase.toBits u t)

/-- LL 286 and 287 and DIST 30 and 31 latch InvalidSymbolCode, and change nothing else.  Rests on 43_deflate.md
R230 R231, 30_encoding.md R117 R119.  That a stream row runs on its own is the model's choice
(notes/assumptions/8). -/
def Obligations.MeaninglessSymbolsInvalid : Prop :=
  ∀ (s : State) (i : Instr), (i = .llRes286 ∨ i = .llRes287 ∨ i = .distRes30 ∨ i = .distRes31) →
  ∃ t, exec i s = .next t ∧ ErrorLatched .invalidSymbolCode s.phase.toBits s t

/-- Each stream row of the table, run on its own, does what DBLK does with that decoded value.  Rests on
43_deflate.md R241 R226, 30_encoding.md R124.  That a stream row runs on its own, with an error latched as in
a block, is the model's choice (notes/assumptions/8). -/
def Obligations.StreamRowsMatchBlockDecoder : Prop :=
  ∀ (s : State) (i : Instr) (kind : StreamKind) (v : BitVec 9), encode i = .symbol kind v →
  exec i s = finishSymbol
    (match kind with
     | .btype => blockType v.toNat s
     | .cl => clSymbol v.toNat s
     | .ll => llSymbol v.toNat s
     | .dist => distSymbol v.toNat s)

/-- In FAULTED the stream commands are refused, in DONE the block commands; BRD reads in DONE and can still latch.
Rests on 40_bitreader.md R147, 60_exceptions.md R283 R284 R287, 43_deflate.md R212 R237. -/
def Obligations.StreamCommandsDependOnSession : Prop :=
  ∀ s : State,
  (s.sstate = .faulted → exec .dblk s = .next (s.respond .sessionFaulted 0) ∧
    exec .dstr s = .next (s.respond .sessionFaulted 0) ∧
    ∀ (keep : Bool) (n : BitVec 6), (n.toNat ≤ 32 → exec (.brd keep n) s = .next (s.respond .sessionFaulted 0)) ∧
      (32 < n.toNat → exec (.brd keep n) s = .next (s.respond .illegalOperand 0))) ∧
  (s.sstate = .done → exec .dblk s = .next (s.respond .streamFinished 0) ∧
    exec .dstr s = .next (s.respond .streamFinished 0)) ∧
  (∀ (keep : Bool) (n : BitVec 6), n.toNat ≤ 32 → s.readerOk →
    (s.sstate = .done → n.toNat ≤ s.bitsLeft → ∃ t, exec (.brd keep n) s = .next t ∧ t.sstate = .done ∧
      t.resp = some { status := .ok, result := BitVec.ofNat 32 (bitsValue (s.streamBits.take n.toNat)) }) ∧
    (s.sstate = .done → s.bitsLeft < n.toNat → ∃ t, exec (.brd keep n) s = .next t ∧ t.sstate = .faulted ∧
      t.resp = some { status := .unexpectedEndOfInput, result := 0 }) ∧
    (s.sstate ≠ .faulted → ∃ t e r, exec (.brd keep n) s = .next t ∧ t.resp = some { status := e, result := r } ∧
      e ≠ .sessionFaulted))

/-- In READY, DBLK either completes one block or latches one stream error with its full context.  Rests on
43_deflate.md R211 R212 R236, 60_exceptions.md R281 R283 R285 R288, 42_tree.md R186. -/
def Obligations.DblkEndsDoneOrLatched : Prop :=
  ∀ s : State, s.sstate = .ready → ∃ t, exec .dblk s = .next t ∧ t.loc = Locals.idle ∧ t.staged = s.staged ∧
  t.cmds = s.cmds ∧ s.output <+: t.output ∧
  ((t.resp = some { status := .ok, result := t.bhdr.setWidth 32 } ∧ t.phase.toBits = 6 ∧
    t.blkcnt = s.blkcnt + 1 ∧ t.sstate = (if t.bhdr.getLsbD 0 then .done else .ready) ∧
    t.errCode = s.errCode ∧ t.errBlock = s.errBlock ∧ t.errPhase = s.errPhase ∧ t.errBitpos = s.errBitpos) ∨
   (∃ e, 2 ≤ e.code.toNat ∧ e.code.toNat ≤ 8 ∧ t.resp = some { status := e, result := 0 } ∧ t.sstate = .faulted ∧
    t.errCode = e.code ∧ t.blkcnt = s.blkcnt ∧ t.errBlock = t.blkcnt ∧ t.errPhase = t.phase.toBits ∧ t.errPhase.toNat ≤ 5 ∧
    t.errBitpos = t.bitpos))

/-- DBLK decodes every dynamic block: any bits that spell a legal block give its bytes, and OK with its header.
Rests on 43_deflate.md R212 R215 R216 R218 R226 R235 R236, 30_encoding.md R110 R111 R112 R113 R115 R116 R117
R118 R119, 42_tree.md R187 R192. -/
def Obligations.DblkDecodesBlock : Prop :=
  ∀ (s : State) (b : BlockText) (rest : List Bool), s.sstate = .ready → s.readerOk → s.windowOk →
  b.ok s.wfill.toNat → s.streamBits = b.bits ++ rest →
  ∃ t, exec .dblk s = .next t ∧ t.output = b.tokens.foldl Token.expand s.output ∧
    t.resp = some { status := .ok, result := t.bhdr.setWidth 32 } ∧
    t.bhdr.toNat = bitsValue (b.bits.take 17) ∧
    t.streamBits = rest ∧ t.bitpos = s.bitpos + BitVec.ofNat 64 b.bits.length ∧
    t.blkcnt = s.blkcnt + 1 ∧ t.sstate = (if b.bfinal then .done else .ready) ∧ t.phase.toBits = 6 ∧
    (∀ i, (t.lenAt .cl i).toNat = b.cl.getD i 0 ∧ (t.lenAt .ll i).toNat = b.ll.getD i 0 ∧
      (t.lenAt .dist i).toNat = b.dist.getD i 0) ∧
    t.errCode = s.errCode ∧ t.cmds = s.cmds ∧ t.staged = s.staged ∧ t.loc = Locals.idle

/-- DSTR decodes every stream of dynamic blocks to its end: all the bytes, and OK with BLKCNT.  Rests on
43_deflate.md R237 R238, 30_encoding.md R110 R123. -/
def Obligations.DstrDecodesStream : Prop :=
  ∀ (s : State) (bs : List BlockText) (rest : List Bool), s.sstate = .ready → s.readerOk → s.windowOk →
  streamOk s.wfill.toNat bs → s.streamBits = bs.flatMap BlockText.bits ++ rest →
  ∃ t, exec .dstr s = .next t ∧ t.output = (bs.flatMap BlockText.tokens).foldl Token.expand s.output ∧
    t.resp = some { status := .ok, result := t.blkcnt } ∧ t.blkcnt = s.blkcnt + BitVec.ofNat 32 bs.length ∧
    t.streamBits = rest ∧ t.bitpos = s.bitpos + BitVec.ofNat 64 (bs.flatMap BlockText.bits).length ∧
    t.sstate = .done ∧ t.errCode = s.errCode ∧ t.cmds = s.cmds ∧ t.staged = s.staged ∧ t.loc = Locals.idle

/-- A stream that spells literal codes and then the end of block puts out exactly those bytes and ends the block.
Rests on 43_deflate.md R226 R227 R228 R236, 42_tree.md R192. -/
def Obligations.LiteralRunDecodes : Prop :=
  ∀ (s : State) (items : List (List Bool × Byte)) (eob rest : List Bool), s.readerOk →
  s.treeLL.wf (Config.nodecap .ll) → (∀ c ∈ items, s.treeLL.codeOf c.1 (c.2.setWidth 9)) →
  s.treeLL.codeOf eob 256 → s.streamBits = items.flatMap (fun c => c.1) ++ eob ++ rest →
  ∃ t, decodeData s = .ok () t ∧ t.output = s.output ++ items.map (fun c => c.2) ∧ t.streamBits = rest ∧
    t.bitpos = s.bitpos + BitVec.ofNat 64 (items.flatMap (fun c => c.1) ++ eob).length ∧
    t.phase.toBits = 6 ∧ t.blkcnt = s.blkcnt + 1 ∧ t.outcnt = s.outcnt + BitVec.ofNat 64 items.length ∧
    t.sstate = (if s.bhdr.getLsbD 0 then .done else s.sstate) ∧
    SameLengths s t ∧ SameCodes s t ∧ t.treeCL = s.treeCL ∧ t.treeDIST = s.treeDIST

/-- The fuel of the block loops is never used up: any fuel above the bits left gives the same result, never stuck.
Rests on 70_reset_and_hazards.md R322, 42_tree.md R192, 43_deflate.md R218 R226 R237.  The fuel is the model's
own device; that it is never used up is read from the spec by inference (notes/assumptions/10, DEDUCED). -/
def Obligations.LoopsEndWithoutFuel : Prop :=
  ∀ (s : State) (fuel : Nat), s.bitsLeft < fuel →
  (∀ k, decodeBits k fuel s = decodeBits k (s.bitsLeft + 1) s ∧ decodeBits k fuel s ≠ .stuck) ∧
  (lengthLoop fuel s = lengthLoop (s.bitsLeft + 1) s ∧ lengthLoop fuel s ≠ .stuck) ∧
  (dataLoop fuel s = dataLoop (s.bitsLeft + 1) s ∧ dataLoop fuel s ≠ .stuck) ∧
  (streamLoop fuel s = streamLoop (s.bitsLeft + 1) s ∧ streamLoop fuel s ≠ .stuck)

/-- DSTR is DBLK repeated until the session leaves READY.  Rests on 43_deflate.md R237. -/
def Obligations.DstrIsRepeatedDblk : Prop :=
  ∀ s t : State, s.sstate = .ready → exec .dblk s = .next t →
  (t.sstate = .ready → exec .dstr s = exec .dstr t) ∧
  (t.sstate = .done → exec .dstr s = .next (t.respond .ok t.blkcnt)) ∧
  (t.sstate = .faulted → exec .dstr s = .next t)

/-- What the host did to lengths, codes and trees never changes how a block decodes.  Rests on
70_reset_and_hazards.md R319, 43_deflate.md R238. -/
def Obligations.DblkIgnoresHostTables : Prop :=
  ∀ s s' : State, s.sstate = .ready → SameStream s s' →
  ∃ t t', exec .dblk s = .next t ∧ exec .dblk s' = .next t' ∧ SameStream t t' ∧ t'.resp = t.resp

/-- After a DBLK that answers OK, codes and trees are those of the block's lengths, and the LL cursor is on 256.
Rests on 43_deflate.md R239 R216 R218 R225, 30_encoding.md R116. -/
def Obligations.DblkLeavesBlockTables : Prop :=
  ∀ (s t : State) (r : Word), s.sstate = .ready → exec .dblk s = .next t →
  t.resp = some { status := .ok, result := r } →
  (∀ k, t.codes k = canonicalCodes (t.lens k) ∧
    Tree.build (Config.nodecap k) (t.codes k) 0 Tree.empty = (none, { t.tree k with cur := 0 })) ∧
  (∀ i, (t.bhdr.extractLsb' 3 5).toNat + 257 ≤ i → t.lenAt .ll i = 0) ∧
  (∀ i, (t.bhdr.extractLsb' 8 5).toNat + 1 ≤ i → t.lenAt .dist i = 0) ∧
  t.treeLL.leafAt t.treeLL.cur 256 ∧ t.phase.toBits = 6

/-- The session state moves only as its table says.  Formalises R288. -/
def Obligations.SessionStateMoves : Prop :=
  ∀ (s t : State) (w : Word) (rest : List Word), s.staged = none → s.cmds = w :: rest → step s = .next t →
  (decode (.command w) = .ok .srst → t.sstate = .ready) ∧
  (decode (.command w) ≠ .ok .srst →
    (s.sstate = .faulted → t.sstate = .faulted ∧ SameStream { s with cmds := rest } t) ∧
    (s.sstate = .done → t.sstate = .done ∨
      (t.sstate = .faulted ∧ (∃ keep n, decode (.command w) = .ok (.brd keep n)) ∧
        t.resp = some { status := .unexpectedEndOfInput, result := 0 })) ∧
    (s.sstate = .ready → t.sstate = .ready ∨
      (t.sstate = .done ∧ (decode (.command w) = .ok .dblk ∨ decode (.command w) = .ok .dstr) ∧
        t.bhdr.getLsbD 0 = true ∧ ∃ r, t.resp = some { status := .ok, result := r }) ∨
      (t.sstate = .faulted ∧
        ((∃ keep n, decode (.command w) = .ok (.brd keep n)) ∨ decode (.command w) = .ok .dblk ∨
          decode (.command w) = .ok .dstr) ∧
        ∃ e, e ≠ .ok ∧ t.errCode = e.code ∧ t.resp = some { status := e, result := 0 }))) ∧
  (s.sstate = .ready → ∀ r, t.resp = some { status := .ok, result := r } →
    (decode (.command w) = .ok .dblk → t.sstate = if t.bhdr.getLsbD 0 then .done else .ready) ∧
    (decode (.command w) = .ok .dstr → t.sstate = .done)) ∧
  (s.sstate = .ready → ∀ e, e ≠ .ok → t.resp = some { status := e, result := 0 } →
    decode (.command w) = .ok .dblk ∨ decode (.command w) = .ok .dstr → t.sstate = .faulted) ∧
  (∀ keep n, decode (.command w) = .ok (.brd keep n) →
    t.resp = some { status := .unexpectedEndOfInput, result := 0 } → t.sstate = .faulted)

/-- Errors that are not latched leave the session state and the error registers, with result 0.  Formalises R284. -/
def Obligations.UnlatchedErrorsKeepSession : Prop :=
  ∀ (s t : State) (w : Word) (rest : List Word) (e : Status) (r : Word), s.staged = none → s.cmds = w :: rest →
  step s = .next t → t.resp = some { status := e, result := r } →
  ((e = .illegalCommand ∨ e = .illegalOperand ∨ e = .sessionFaulted ∨ e = .streamFinished ∨
      e = .treeCapacityExceeded) → SameSession s t ∧ r = 0) ∧
  ((∃ sel, decode (.command w) = .ok (.tbld sel)) → SameSession s t ∧ (e ≠ .ok → r = 0)) ∧
  (e = .treeCapacityExceeded → (∃ sel sym mk, decode (.command w) = .ok (.tins sel sym mk)) ∨
    (∃ sel, decode (.command w) = .ok (.tbld sel)))

/-- No command but SRST, BRD, DBLK and DSTR touches the session, the bit reader, the block, the window or the
output.  Rests on 41_canonical.md R161 R170, 42_tree.md R185 R188, 60_exceptions.md R292, 10_state.md R47. -/
def Obligations.TableCommandsKeepStream : Prop :=
  ∀ (s t : State) (i : Instr) (w : Word), encode i = .command w → i ≠ .srst → i ≠ .dblk → i ≠ .dstr →
  (∀ keep n, i ≠ .brd keep n) → exec i s = .next t → SameStream s t

/-- OUTCNT counts the bytes put out, none is taken back, and WPTR and WFILL keep step.  Formalises R45.  WPTR and
WFILL keeping step rests on 10_state.md R43 and R44. -/
def Obligations.OutputOnlyGrows : Prop :=
  (∀ (s t : State) (i : Instr), i ≠ .srst → s.wfill.toNat ≤ 32768 → exec i s = .next t →
    ∃ bytes, t.output = s.output ++ bytes ∧ t.outcnt = s.outcnt + BitVec.ofNat 64 bytes.length ∧
      t.wptr = s.wptr + BitVec.ofNat 15 bytes.length ∧
      t.wfill.toNat = min (s.wfill.toNat + bytes.length) 32768) ∧
  (∀ s t : State, exec .srst s = .next t → t.output = s.output ∧ t.outcnt = 0 ∧ t.wptr = 0 ∧ t.wfill = 0)

/-- Every step keeps the bit-reader invariants, in every state that meets them.  Rests on 10_state.md R32.  The
spec marks R32 as derived from R29, R30 and R142. -/
def Obligations.ReaderInvariantKept : Prop :=
  (∀ s t : State, s.readerOk → step s = .next t → t.readerOk) ∧ State.reset.readerOk

/-- Every step keeps the invariants of all three trees.  Rests on 10_state.md R38 R39 R40 R41, 42_tree.md R182
R183.  That a child is allocated later than its parent is the model's addition (read from the order of
allocation in R182), which makes the induction go through. -/
def Obligations.TreeInvariantsKept : Prop :=
  (∀ s t : State, s.treesOk → step s = .next t → t.treesOk) ∧ State.reset.treesOk ∧
  (∀ (s : State) (k : Sel) (n m : BitVec 12) (bits more : List Bool) (a b : BitVec 9),
    (s.tree k).walk 0 bits = some n → (s.tree k).leafAt n a →
    (s.tree k).walk 0 (bits ++ more) = some m → (s.tree k).leafAt m b → more = [])

/-- Every step from a state between commands keeps all the invariants together.  Rests on 10_state.md R24 R25 R32
R37 R41 R44 R46. -/
def Obligations.CommandsKeepInvariants : Prop :=
  ∀ s t : State, s.Inv → step s = .next t → t.Inv

/-- The state after reset meets all the invariants.  Rests on 10_state.md R49, 70_reset_and_hazards.md R311. -/
def Obligations.ResetMeetsInvariants : Prop :=
  State.reset.Inv
end

