-- ==== Sys2Proof/Laws/State.lean ====
section
/-! SUPPORT. What each named update of the state does to each field: one lemma per field per update, and the
accessors by alphabet under the updates that do not touch them. -/

namespace Sys2Proof.Machine

/-! ### respond -/

@[simp] theorem respond_sstate (s : State) (st : Status) (r : Word) : (s.respond st r).sstate = s.sstate := rfl
@[simp] theorem respond_errCode (s : State) (st : Status) (r : Word) : (s.respond st r).errCode = s.errCode := rfl
@[simp] theorem respond_errBlock (s : State) (st : Status) (r : Word) : (s.respond st r).errBlock = s.errBlock := rfl
@[simp] theorem respond_errPhase (s : State) (st : Status) (r : Word) : (s.respond st r).errPhase = s.errPhase := rfl
@[simp] theorem respond_errBitpos (s : State) (st : Status) (r : Word) : (s.respond st r).errBitpos = s.errBitpos := rfl
@[simp] theorem respond_brAcc (s : State) (st : Status) (r : Word) : (s.respond st r).brAcc = s.brAcc := rfl
@[simp] theorem respond_brCnt (s : State) (st : Status) (r : Word) : (s.respond st r).brCnt = s.brCnt := rfl
@[simp] theorem respond_bitpos (s : State) (st : Status) (r : Word) : (s.respond st r).bitpos = s.bitpos := rfl
@[simp] theorem respond_blkcnt (s : State) (st : Status) (r : Word) : (s.respond st r).blkcnt = s.blkcnt := rfl
@[simp] theorem respond_bhdr (s : State) (st : Status) (r : Word) : (s.respond st r).bhdr = s.bhdr := rfl
@[simp] theorem respond_phase (s : State) (st : Status) (r : Word) : (s.respond st r).phase = s.phase := rfl
@[simp] theorem respond_lenCL (s : State) (st : Status) (r : Word) : (s.respond st r).lenCL = s.lenCL := rfl
@[simp] theorem respond_lenLL (s : State) (st : Status) (r : Word) : (s.respond st r).lenLL = s.lenLL := rfl
@[simp] theorem respond_lenDIST (s : State) (st : Status) (r : Word) : (s.respond st r).lenDIST = s.lenDIST := rfl
@[simp] theorem respond_codeCL (s : State) (st : Status) (r : Word) : (s.respond st r).codeCL = s.codeCL := rfl
@[simp] theorem respond_codeLL (s : State) (st : Status) (r : Word) : (s.respond st r).codeLL = s.codeLL := rfl
@[simp] theorem respond_codeDIST (s : State) (st : Status) (r : Word) : (s.respond st r).codeDIST = s.codeDIST := rfl
@[simp] theorem respond_treeCL (s : State) (st : Status) (r : Word) : (s.respond st r).treeCL = s.treeCL := rfl
@[simp] theorem respond_treeLL (s : State) (st : Status) (r : Word) : (s.respond st r).treeLL = s.treeLL := rfl
@[simp] theorem respond_treeDIST (s : State) (st : Status) (r : Word) : (s.respond st r).treeDIST = s.treeDIST := rfl
@[simp] theorem respond_win (s : State) (st : Status) (r : Word) : (s.respond st r).win = s.win := rfl
@[simp] theorem respond_wptr (s : State) (st : Status) (r : Word) : (s.respond st r).wptr = s.wptr := rfl
@[simp] theorem respond_wfill (s : State) (st : Status) (r : Word) : (s.respond st r).wfill = s.wfill := rfl
@[simp] theorem respond_outcnt (s : State) (st : Status) (r : Word) : (s.respond st r).outcnt = s.outcnt := rfl
@[simp] theorem respond_loc (s : State) (st : Status) (r : Word) : (s.respond st r).loc = s.loc := rfl
@[simp] theorem respond_staged (s : State) (st : Status) (r : Word) : (s.respond st r).staged = s.staged := rfl
@[simp] theorem respond_cmds (s : State) (st : Status) (r : Word) : (s.respond st r).cmds = s.cmds := rfl
@[simp] theorem respond_input (s : State) (st : Status) (r : Word) : (s.respond st r).input = s.input := rfl
@[simp] theorem respond_output (s : State) (st : Status) (r : Word) : (s.respond st r).output = s.output := rfl
@[simp] theorem respond_resp (s : State) (st : Status) (r : Word) : (s.respond st r).resp = some { status := st, result := r } := rfl
@[simp] theorem respond_lenAt (s : State) (st : Status) (r : Word) (k0 : Sel) (i0 : Nat) : (s.respond st r).lenAt k0 i0 = s.lenAt k0 i0 := by cases k0 <;> rfl
@[simp] theorem respond_lens (s : State) (st : Status) (r : Word) (k0 : Sel) : (s.respond st r).lens k0 = s.lens k0 := by cases k0 <;> rfl
@[simp] theorem respond_codes (s : State) (st : Status) (r : Word) (k0 : Sel) : (s.respond st r).codes k0 = s.codes k0 := by cases k0 <;> rfl
@[simp] theorem respond_codeAt (s : State) (st : Status) (r : Word) (k0 : Sel) (i0 : Nat) : (s.respond st r).codeAt k0 i0 = s.codeAt k0 i0 := by cases k0 <;> rfl
@[simp] theorem respond_tree (s : State) (st : Status) (r : Word) (k0 : Sel) : (s.respond st r).tree k0 = s.tree k0 := by cases k0 <;> rfl
@[simp] theorem respond_bitsLeft (s : State) (st : Status) (r : Word) : (s.respond st r).bitsLeft = s.bitsLeft := by simp [State.bitsLeft]

/-! ### latch -/

@[simp] theorem latch_sstate (s : State) (e : Status) (p : BitVec 3) : (latch e p s).sstate = .faulted := rfl
@[simp] theorem latch_errCode (s : State) (e : Status) (p : BitVec 3) : (latch e p s).errCode = e.code := rfl
@[simp] theorem latch_errBlock (s : State) (e : Status) (p : BitVec 3) : (latch e p s).errBlock = s.blkcnt := rfl
@[simp] theorem latch_errPhase (s : State) (e : Status) (p : BitVec 3) : (latch e p s).errPhase = p := rfl
@[simp] theorem latch_errBitpos (s : State) (e : Status) (p : BitVec 3) : (latch e p s).errBitpos = s.bitpos := rfl
@[simp] theorem latch_brAcc (s : State) (e : Status) (p : BitVec 3) : (latch e p s).brAcc = s.brAcc := rfl
@[simp] theorem latch_brCnt (s : State) (e : Status) (p : BitVec 3) : (latch e p s).brCnt = s.brCnt := rfl
@[simp] theorem latch_bitpos (s : State) (e : Status) (p : BitVec 3) : (latch e p s).bitpos = s.bitpos := rfl
@[simp] theorem latch_blkcnt (s : State) (e : Status) (p : BitVec 3) : (latch e p s).blkcnt = s.blkcnt := rfl
@[simp] theorem latch_bhdr (s : State) (e : Status) (p : BitVec 3) : (latch e p s).bhdr = s.bhdr := rfl
@[simp] theorem latch_phase (s : State) (e : Status) (p : BitVec 3) : (latch e p s).phase = s.phase := rfl
@[simp] theorem latch_lenCL (s : State) (e : Status) (p : BitVec 3) : (latch e p s).lenCL = s.lenCL := rfl
@[simp] theorem latch_lenLL (s : State) (e : Status) (p : BitVec 3) : (latch e p s).lenLL = s.lenLL := rfl
@[simp] theorem latch_lenDIST (s : State) (e : Status) (p : BitVec 3) : (latch e p s).lenDIST = s.lenDIST := rfl
@[simp] theorem latch_codeCL (s : State) (e : Status) (p : BitVec 3) : (latch e p s).codeCL = s.codeCL := rfl
@[simp] theorem latch_codeLL (s : State) (e : Status) (p : BitVec 3) : (latch e p s).codeLL = s.codeLL := rfl
@[simp] theorem latch_codeDIST (s : State) (e : Status) (p : BitVec 3) : (latch e p s).codeDIST = s.codeDIST := rfl
@[simp] theorem latch_treeCL (s : State) (e : Status) (p : BitVec 3) : (latch e p s).treeCL = s.treeCL := rfl
@[simp] theorem latch_treeLL (s : State) (e : Status) (p : BitVec 3) : (latch e p s).treeLL = s.treeLL := rfl
@[simp] theorem latch_treeDIST (s : State) (e : Status) (p : BitVec 3) : (latch e p s).treeDIST = s.treeDIST := rfl
@[simp] theorem latch_win (s : State) (e : Status) (p : BitVec 3) : (latch e p s).win = s.win := rfl
@[simp] theorem latch_wptr (s : State) (e : Status) (p : BitVec 3) : (latch e p s).wptr = s.wptr := rfl
@[simp] theorem latch_wfill (s : State) (e : Status) (p : BitVec 3) : (latch e p s).wfill = s.wfill := rfl
@[simp] theorem latch_outcnt (s : State) (e : Status) (p : BitVec 3) : (latch e p s).outcnt = s.outcnt := rfl
@[simp] theorem latch_loc (s : State) (e : Status) (p : BitVec 3) : (latch e p s).loc = s.loc := rfl
@[simp] theorem latch_staged (s : State) (e : Status) (p : BitVec 3) : (latch e p s).staged = s.staged := rfl
@[simp] theorem latch_cmds (s : State) (e : Status) (p : BitVec 3) : (latch e p s).cmds = s.cmds := rfl
@[simp] theorem latch_input (s : State) (e : Status) (p : BitVec 3) : (latch e p s).input = s.input := rfl
@[simp] theorem latch_output (s : State) (e : Status) (p : BitVec 3) : (latch e p s).output = s.output := rfl
@[simp] theorem latch_resp (s : State) (e : Status) (p : BitVec 3) : (latch e p s).resp = some { status := e, result := 0 } := rfl
@[simp] theorem latch_lenAt (s : State) (e : Status) (p : BitVec 3) (k0 : Sel) (i0 : Nat) : (latch e p s).lenAt k0 i0 = s.lenAt k0 i0 := by cases k0 <;> rfl
@[simp] theorem latch_lens (s : State) (e : Status) (p : BitVec 3) (k0 : Sel) : (latch e p s).lens k0 = s.lens k0 := by cases k0 <;> rfl
@[simp] theorem latch_codes (s : State) (e : Status) (p : BitVec 3) (k0 : Sel) : (latch e p s).codes k0 = s.codes k0 := by cases k0 <;> rfl
@[simp] theorem latch_codeAt (s : State) (e : Status) (p : BitVec 3) (k0 : Sel) (i0 : Nat) : (latch e p s).codeAt k0 i0 = s.codeAt k0 i0 := by cases k0 <;> rfl
@[simp] theorem latch_tree (s : State) (e : Status) (p : BitVec 3) (k0 : Sel) : (latch e p s).tree k0 = s.tree k0 := by cases k0 <;> rfl
@[simp] theorem latch_bitsLeft (s : State) (e : Status) (p : BitVec 3) : (latch e p s).bitsLeft = s.bitsLeft := by simp [State.bitsLeft]

/-! ### blockError -/

@[simp] theorem blockError_sstate (s : State) (e : Status) : (blockError e s).sstate = .faulted := rfl
@[simp] theorem blockError_errCode (s : State) (e : Status) : (blockError e s).errCode = e.code := rfl
@[simp] theorem blockError_errBlock (s : State) (e : Status) : (blockError e s).errBlock = s.blkcnt := rfl
@[simp] theorem blockError_errPhase (s : State) (e : Status) : (blockError e s).errPhase = s.phase.toBits := rfl
@[simp] theorem blockError_errBitpos (s : State) (e : Status) : (blockError e s).errBitpos = s.bitpos := rfl
@[simp] theorem blockError_brAcc (s : State) (e : Status) : (blockError e s).brAcc = s.brAcc := rfl
@[simp] theorem blockError_brCnt (s : State) (e : Status) : (blockError e s).brCnt = s.brCnt := rfl
@[simp] theorem blockError_bitpos (s : State) (e : Status) : (blockError e s).bitpos = s.bitpos := rfl
@[simp] theorem blockError_blkcnt (s : State) (e : Status) : (blockError e s).blkcnt = s.blkcnt := rfl
@[simp] theorem blockError_bhdr (s : State) (e : Status) : (blockError e s).bhdr = s.bhdr := rfl
@[simp] theorem blockError_phase (s : State) (e : Status) : (blockError e s).phase = s.phase := rfl
@[simp] theorem blockError_lenCL (s : State) (e : Status) : (blockError e s).lenCL = s.lenCL := rfl
@[simp] theorem blockError_lenLL (s : State) (e : Status) : (blockError e s).lenLL = s.lenLL := rfl
@[simp] theorem blockError_lenDIST (s : State) (e : Status) : (blockError e s).lenDIST = s.lenDIST := rfl
@[simp] theorem blockError_codeCL (s : State) (e : Status) : (blockError e s).codeCL = s.codeCL := rfl
@[simp] theorem blockError_codeLL (s : State) (e : Status) : (blockError e s).codeLL = s.codeLL := rfl
@[simp] theorem blockError_codeDIST (s : State) (e : Status) : (blockError e s).codeDIST = s.codeDIST := rfl
@[simp] theorem blockError_treeCL (s : State) (e : Status) : (blockError e s).treeCL = s.treeCL := rfl
@[simp] theorem blockError_treeLL (s : State) (e : Status) : (blockError e s).treeLL = s.treeLL := rfl
@[simp] theorem blockError_treeDIST (s : State) (e : Status) : (blockError e s).treeDIST = s.treeDIST := rfl
@[simp] theorem blockError_win (s : State) (e : Status) : (blockError e s).win = s.win := rfl
@[simp] theorem blockError_wptr (s : State) (e : Status) : (blockError e s).wptr = s.wptr := rfl
@[simp] theorem blockError_wfill (s : State) (e : Status) : (blockError e s).wfill = s.wfill := rfl
@[simp] theorem blockError_outcnt (s : State) (e : Status) : (blockError e s).outcnt = s.outcnt := rfl
@[simp] theorem blockError_loc (s : State) (e : Status) : (blockError e s).loc = Locals.idle := rfl
@[simp] theorem blockError_staged (s : State) (e : Status) : (blockError e s).staged = s.staged := rfl
@[simp] theorem blockError_cmds (s : State) (e : Status) : (blockError e s).cmds = s.cmds := rfl
@[simp] theorem blockError_input (s : State) (e : Status) : (blockError e s).input = s.input := rfl
@[simp] theorem blockError_output (s : State) (e : Status) : (blockError e s).output = s.output := rfl
@[simp] theorem blockError_resp (s : State) (e : Status) : (blockError e s).resp = some { status := e, result := 0 } := rfl
@[simp] theorem blockError_lenAt (s : State) (e : Status) (k0 : Sel) (i0 : Nat) : (blockError e s).lenAt k0 i0 = s.lenAt k0 i0 := by cases k0 <;> rfl
@[simp] theorem blockError_lens (s : State) (e : Status) (k0 : Sel) : (blockError e s).lens k0 = s.lens k0 := by cases k0 <;> rfl
@[simp] theorem blockError_codes (s : State) (e : Status) (k0 : Sel) : (blockError e s).codes k0 = s.codes k0 := by cases k0 <;> rfl
@[simp] theorem blockError_codeAt (s : State) (e : Status) (k0 : Sel) (i0 : Nat) : (blockError e s).codeAt k0 i0 = s.codeAt k0 i0 := by cases k0 <;> rfl
@[simp] theorem blockError_tree (s : State) (e : Status) (k0 : Sel) : (blockError e s).tree k0 = s.tree k0 := by cases k0 <;> rfl
@[simp] theorem blockError_bitsLeft (s : State) (e : Status) : (blockError e s).bitsLeft = s.bitsLeft := by simp [State.bitsLeft]

/-! ### setLoc -/

@[simp] theorem setLoc_sstate (s : State) (l : Locals) : (s.setLoc l).sstate = s.sstate := rfl
@[simp] theorem setLoc_errCode (s : State) (l : Locals) : (s.setLoc l).errCode = s.errCode := rfl
@[simp] theorem setLoc_errBlock (s : State) (l : Locals) : (s.setLoc l).errBlock = s.errBlock := rfl
@[simp] theorem setLoc_errPhase (s : State) (l : Locals) : (s.setLoc l).errPhase = s.errPhase := rfl
@[simp] theorem setLoc_errBitpos (s : State) (l : Locals) : (s.setLoc l).errBitpos = s.errBitpos := rfl
@[simp] theorem setLoc_brAcc (s : State) (l : Locals) : (s.setLoc l).brAcc = s.brAcc := rfl
@[simp] theorem setLoc_brCnt (s : State) (l : Locals) : (s.setLoc l).brCnt = s.brCnt := rfl
@[simp] theorem setLoc_bitpos (s : State) (l : Locals) : (s.setLoc l).bitpos = s.bitpos := rfl
@[simp] theorem setLoc_blkcnt (s : State) (l : Locals) : (s.setLoc l).blkcnt = s.blkcnt := rfl
@[simp] theorem setLoc_bhdr (s : State) (l : Locals) : (s.setLoc l).bhdr = s.bhdr := rfl
@[simp] theorem setLoc_phase (s : State) (l : Locals) : (s.setLoc l).phase = s.phase := rfl
@[simp] theorem setLoc_lenCL (s : State) (l : Locals) : (s.setLoc l).lenCL = s.lenCL := rfl
@[simp] theorem setLoc_lenLL (s : State) (l : Locals) : (s.setLoc l).lenLL = s.lenLL := rfl
@[simp] theorem setLoc_lenDIST (s : State) (l : Locals) : (s.setLoc l).lenDIST = s.lenDIST := rfl
@[simp] theorem setLoc_codeCL (s : State) (l : Locals) : (s.setLoc l).codeCL = s.codeCL := rfl
@[simp] theorem setLoc_codeLL (s : State) (l : Locals) : (s.setLoc l).codeLL = s.codeLL := rfl
@[simp] theorem setLoc_codeDIST (s : State) (l : Locals) : (s.setLoc l).codeDIST = s.codeDIST := rfl
@[simp] theorem setLoc_treeCL (s : State) (l : Locals) : (s.setLoc l).treeCL = s.treeCL := rfl
@[simp] theorem setLoc_treeLL (s : State) (l : Locals) : (s.setLoc l).treeLL = s.treeLL := rfl
@[simp] theorem setLoc_treeDIST (s : State) (l : Locals) : (s.setLoc l).treeDIST = s.treeDIST := rfl
@[simp] theorem setLoc_win (s : State) (l : Locals) : (s.setLoc l).win = s.win := rfl
@[simp] theorem setLoc_wptr (s : State) (l : Locals) : (s.setLoc l).wptr = s.wptr := rfl
@[simp] theorem setLoc_wfill (s : State) (l : Locals) : (s.setLoc l).wfill = s.wfill := rfl
@[simp] theorem setLoc_outcnt (s : State) (l : Locals) : (s.setLoc l).outcnt = s.outcnt := rfl
@[simp] theorem setLoc_loc (s : State) (l : Locals) : (s.setLoc l).loc = l := rfl
@[simp] theorem setLoc_staged (s : State) (l : Locals) : (s.setLoc l).staged = s.staged := rfl
@[simp] theorem setLoc_cmds (s : State) (l : Locals) : (s.setLoc l).cmds = s.cmds := rfl
@[simp] theorem setLoc_input (s : State) (l : Locals) : (s.setLoc l).input = s.input := rfl
@[simp] theorem setLoc_output (s : State) (l : Locals) : (s.setLoc l).output = s.output := rfl
@[simp] theorem setLoc_resp (s : State) (l : Locals) : (s.setLoc l).resp = s.resp := rfl
@[simp] theorem setLoc_lenAt (s : State) (l : Locals) (k0 : Sel) (i0 : Nat) : (s.setLoc l).lenAt k0 i0 = s.lenAt k0 i0 := by cases k0 <;> rfl
@[simp] theorem setLoc_lens (s : State) (l : Locals) (k0 : Sel) : (s.setLoc l).lens k0 = s.lens k0 := by cases k0 <;> rfl
@[simp] theorem setLoc_codes (s : State) (l : Locals) (k0 : Sel) : (s.setLoc l).codes k0 = s.codes k0 := by cases k0 <;> rfl
@[simp] theorem setLoc_codeAt (s : State) (l : Locals) (k0 : Sel) (i0 : Nat) : (s.setLoc l).codeAt k0 i0 = s.codeAt k0 i0 := by cases k0 <;> rfl
@[simp] theorem setLoc_tree (s : State) (l : Locals) (k0 : Sel) : (s.setLoc l).tree k0 = s.tree k0 := by cases k0 <;> rfl
@[simp] theorem setLoc_bitsLeft (s : State) (l : Locals) : (s.setLoc l).bitsLeft = s.bitsLeft := by simp [State.bitsLeft]

/-! ### setReader -/

@[simp] theorem setReader_sstate (s : State) (t : TopUp) : (s.setReader t).sstate = s.sstate := rfl
@[simp] theorem setReader_errCode (s : State) (t : TopUp) : (s.setReader t).errCode = s.errCode := rfl
@[simp] theorem setReader_errBlock (s : State) (t : TopUp) : (s.setReader t).errBlock = s.errBlock := rfl
@[simp] theorem setReader_errPhase (s : State) (t : TopUp) : (s.setReader t).errPhase = s.errPhase := rfl
@[simp] theorem setReader_errBitpos (s : State) (t : TopUp) : (s.setReader t).errBitpos = s.errBitpos := rfl
@[simp] theorem setReader_brAcc (s : State) (t : TopUp) : (s.setReader t).brAcc = t.acc := rfl
@[simp] theorem setReader_brCnt (s : State) (t : TopUp) : (s.setReader t).brCnt = t.cnt := rfl
@[simp] theorem setReader_bitpos (s : State) (t : TopUp) : (s.setReader t).bitpos = s.bitpos := rfl
@[simp] theorem setReader_blkcnt (s : State) (t : TopUp) : (s.setReader t).blkcnt = s.blkcnt := rfl
@[simp] theorem setReader_bhdr (s : State) (t : TopUp) : (s.setReader t).bhdr = s.bhdr := rfl
@[simp] theorem setReader_phase (s : State) (t : TopUp) : (s.setReader t).phase = s.phase := rfl
@[simp] theorem setReader_lenCL (s : State) (t : TopUp) : (s.setReader t).lenCL = s.lenCL := rfl
@[simp] theorem setReader_lenLL (s : State) (t : TopUp) : (s.setReader t).lenLL = s.lenLL := rfl
@[simp] theorem setReader_lenDIST (s : State) (t : TopUp) : (s.setReader t).lenDIST = s.lenDIST := rfl
@[simp] theorem setReader_codeCL (s : State) (t : TopUp) : (s.setReader t).codeCL = s.codeCL := rfl
@[simp] theorem setReader_codeLL (s : State) (t : TopUp) : (s.setReader t).codeLL = s.codeLL := rfl
@[simp] theorem setReader_codeDIST (s : State) (t : TopUp) : (s.setReader t).codeDIST = s.codeDIST := rfl
@[simp] theorem setReader_treeCL (s : State) (t : TopUp) : (s.setReader t).treeCL = s.treeCL := rfl
@[simp] theorem setReader_treeLL (s : State) (t : TopUp) : (s.setReader t).treeLL = s.treeLL := rfl
@[simp] theorem setReader_treeDIST (s : State) (t : TopUp) : (s.setReader t).treeDIST = s.treeDIST := rfl
@[simp] theorem setReader_win (s : State) (t : TopUp) : (s.setReader t).win = s.win := rfl
@[simp] theorem setReader_wptr (s : State) (t : TopUp) : (s.setReader t).wptr = s.wptr := rfl
@[simp] theorem setReader_wfill (s : State) (t : TopUp) : (s.setReader t).wfill = s.wfill := rfl
@[simp] theorem setReader_outcnt (s : State) (t : TopUp) : (s.setReader t).outcnt = s.outcnt := rfl
@[simp] theorem setReader_loc (s : State) (t : TopUp) : (s.setReader t).loc = s.loc := rfl
@[simp] theorem setReader_staged (s : State) (t : TopUp) : (s.setReader t).staged = s.staged := rfl
@[simp] theorem setReader_cmds (s : State) (t : TopUp) : (s.setReader t).cmds = s.cmds := rfl
@[simp] theorem setReader_input (s : State) (t : TopUp) : (s.setReader t).input = t.input := rfl
@[simp] theorem setReader_output (s : State) (t : TopUp) : (s.setReader t).output = s.output := rfl
@[simp] theorem setReader_resp (s : State) (t : TopUp) : (s.setReader t).resp = s.resp := rfl
@[simp] theorem setReader_lenAt (s : State) (t : TopUp) (k0 : Sel) (i0 : Nat) : (s.setReader t).lenAt k0 i0 = s.lenAt k0 i0 := by cases k0 <;> rfl
@[simp] theorem setReader_lens (s : State) (t : TopUp) (k0 : Sel) : (s.setReader t).lens k0 = s.lens k0 := by cases k0 <;> rfl
@[simp] theorem setReader_codes (s : State) (t : TopUp) (k0 : Sel) : (s.setReader t).codes k0 = s.codes k0 := by cases k0 <;> rfl
@[simp] theorem setReader_codeAt (s : State) (t : TopUp) (k0 : Sel) (i0 : Nat) : (s.setReader t).codeAt k0 i0 = s.codeAt k0 i0 := by cases k0 <;> rfl
@[simp] theorem setReader_tree (s : State) (t : TopUp) (k0 : Sel) : (s.setReader t).tree k0 = s.tree k0 := by cases k0 <;> rfl

/-! ### consume -/

@[simp] theorem consume_sstate (s : State) (n : Nat) : (s.consume n).sstate = s.sstate := rfl
@[simp] theorem consume_errCode (s : State) (n : Nat) : (s.consume n).errCode = s.errCode := rfl
@[simp] theorem consume_errBlock (s : State) (n : Nat) : (s.consume n).errBlock = s.errBlock := rfl
@[simp] theorem consume_errPhase (s : State) (n : Nat) : (s.consume n).errPhase = s.errPhase := rfl
@[simp] theorem consume_errBitpos (s : State) (n : Nat) : (s.consume n).errBitpos = s.errBitpos := rfl
@[simp] theorem consume_brAcc (s : State) (n : Nat) : (s.consume n).brAcc = s.brAcc >>> n := rfl
@[simp] theorem consume_brCnt (s : State) (n : Nat) : (s.consume n).brCnt = s.brCnt - BitVec.ofNat 6 n := rfl
@[simp] theorem consume_bitpos (s : State) (n : Nat) : (s.consume n).bitpos = s.bitpos + BitVec.ofNat 64 n := rfl
@[simp] theorem consume_blkcnt (s : State) (n : Nat) : (s.consume n).blkcnt = s.blkcnt := rfl
@[simp] theorem consume_bhdr (s : State) (n : Nat) : (s.consume n).bhdr = s.bhdr := rfl
@[simp] theorem consume_phase (s : State) (n : Nat) : (s.consume n).phase = s.phase := rfl
@[simp] theorem consume_lenCL (s : State) (n : Nat) : (s.consume n).lenCL = s.lenCL := rfl
@[simp] theorem consume_lenLL (s : State) (n : Nat) : (s.consume n).lenLL = s.lenLL := rfl
@[simp] theorem consume_lenDIST (s : State) (n : Nat) : (s.consume n).lenDIST = s.lenDIST := rfl
@[simp] theorem consume_codeCL (s : State) (n : Nat) : (s.consume n).codeCL = s.codeCL := rfl
@[simp] theorem consume_codeLL (s : State) (n : Nat) : (s.consume n).codeLL = s.codeLL := rfl
@[simp] theorem consume_codeDIST (s : State) (n : Nat) : (s.consume n).codeDIST = s.codeDIST := rfl
@[simp] theorem consume_treeCL (s : State) (n : Nat) : (s.consume n).treeCL = s.treeCL := rfl
@[simp] theorem consume_treeLL (s : State) (n : Nat) : (s.consume n).treeLL = s.treeLL := rfl
@[simp] theorem consume_treeDIST (s : State) (n : Nat) : (s.consume n).treeDIST = s.treeDIST := rfl
@[simp] theorem consume_win (s : State) (n : Nat) : (s.consume n).win = s.win := rfl
@[simp] theorem consume_wptr (s : State) (n : Nat) : (s.consume n).wptr = s.wptr := rfl
@[simp] theorem consume_wfill (s : State) (n : Nat) : (s.consume n).wfill = s.wfill := rfl
@[simp] theorem consume_outcnt (s : State) (n : Nat) : (s.consume n).outcnt = s.outcnt := rfl
@[simp] theorem consume_loc (s : State) (n : Nat) : (s.consume n).loc = s.loc := rfl
@[simp] theorem consume_staged (s : State) (n : Nat) : (s.consume n).staged = s.staged := rfl
@[simp] theorem consume_cmds (s : State) (n : Nat) : (s.consume n).cmds = s.cmds := rfl
@[simp] theorem consume_input (s : State) (n : Nat) : (s.consume n).input = s.input := rfl
@[simp] theorem consume_output (s : State) (n : Nat) : (s.consume n).output = s.output := rfl
@[simp] theorem consume_resp (s : State) (n : Nat) : (s.consume n).resp = s.resp := rfl
@[simp] theorem consume_lenAt (s : State) (n : Nat) (k0 : Sel) (i0 : Nat) : (s.consume n).lenAt k0 i0 = s.lenAt k0 i0 := by cases k0 <;> rfl
@[simp] theorem consume_lens (s : State) (n : Nat) (k0 : Sel) : (s.consume n).lens k0 = s.lens k0 := by cases k0 <;> rfl
@[simp] theorem consume_codes (s : State) (n : Nat) (k0 : Sel) : (s.consume n).codes k0 = s.codes k0 := by cases k0 <;> rfl
@[simp] theorem consume_codeAt (s : State) (n : Nat) (k0 : Sel) (i0 : Nat) : (s.consume n).codeAt k0 i0 = s.codeAt k0 i0 := by cases k0 <;> rfl
@[simp] theorem consume_tree (s : State) (n : Nat) (k0 : Sel) : (s.consume n).tree k0 = s.tree k0 := by cases k0 <;> rfl

/-! ### setLen -/

@[simp] theorem setLen_sstate (s : State) (k : Sel) (i : Nat) (v : BitVec 4) : (s.setLen k i v).sstate = s.sstate := by cases k <;> rfl
@[simp] theorem setLen_errCode (s : State) (k : Sel) (i : Nat) (v : BitVec 4) : (s.setLen k i v).errCode = s.errCode := by cases k <;> rfl
@[simp] theorem setLen_errBlock (s : State) (k : Sel) (i : Nat) (v : BitVec 4) : (s.setLen k i v).errBlock = s.errBlock := by cases k <;> rfl
@[simp] theorem setLen_errPhase (s : State) (k : Sel) (i : Nat) (v : BitVec 4) : (s.setLen k i v).errPhase = s.errPhase := by cases k <;> rfl
@[simp] theorem setLen_errBitpos (s : State) (k : Sel) (i : Nat) (v : BitVec 4) : (s.setLen k i v).errBitpos = s.errBitpos := by cases k <;> rfl
@[simp] theorem setLen_brAcc (s : State) (k : Sel) (i : Nat) (v : BitVec 4) : (s.setLen k i v).brAcc = s.brAcc := by cases k <;> rfl
@[simp] theorem setLen_brCnt (s : State) (k : Sel) (i : Nat) (v : BitVec 4) : (s.setLen k i v).brCnt = s.brCnt := by cases k <;> rfl
@[simp] theorem setLen_bitpos (s : State) (k : Sel) (i : Nat) (v : BitVec 4) : (s.setLen k i v).bitpos = s.bitpos := by cases k <;> rfl
@[simp] theorem setLen_blkcnt (s : State) (k : Sel) (i : Nat) (v : BitVec 4) : (s.setLen k i v).blkcnt = s.blkcnt := by cases k <;> rfl
@[simp] theorem setLen_bhdr (s : State) (k : Sel) (i : Nat) (v : BitVec 4) : (s.setLen k i v).bhdr = s.bhdr := by cases k <;> rfl
@[simp] theorem setLen_phase (s : State) (k : Sel) (i : Nat) (v : BitVec 4) : (s.setLen k i v).phase = s.phase := by cases k <;> rfl
@[simp] theorem setLen_codeCL (s : State) (k : Sel) (i : Nat) (v : BitVec 4) : (s.setLen k i v).codeCL = s.codeCL := by cases k <;> rfl
@[simp] theorem setLen_codeLL (s : State) (k : Sel) (i : Nat) (v : BitVec 4) : (s.setLen k i v).codeLL = s.codeLL := by cases k <;> rfl
@[simp] theorem setLen_codeDIST (s : State) (k : Sel) (i : Nat) (v : BitVec 4) : (s.setLen k i v).codeDIST = s.codeDIST := by cases k <;> rfl
@[simp] theorem setLen_treeCL (s : State) (k : Sel) (i : Nat) (v : BitVec 4) : (s.setLen k i v).treeCL = s.treeCL := by cases k <;> rfl
@[simp] theorem setLen_treeLL (s : State) (k : Sel) (i : Nat) (v : BitVec 4) : (s.setLen k i v).treeLL = s.treeLL := by cases k <;> rfl
@[simp] theorem setLen_treeDIST (s : State) (k : Sel) (i : Nat) (v : BitVec 4) : (s.setLen k i v).treeDIST = s.treeDIST := by cases k <;> rfl
@[simp] theorem setLen_win (s : State) (k : Sel) (i : Nat) (v : BitVec 4) : (s.setLen k i v).win = s.win := by cases k <;> rfl
@[simp] theorem setLen_wptr (s : State) (k : Sel) (i : Nat) (v : BitVec 4) : (s.setLen k i v).wptr = s.wptr := by cases k <;> rfl
@[simp] theorem setLen_wfill (s : State) (k : Sel) (i : Nat) (v : BitVec 4) : (s.setLen k i v).wfill = s.wfill := by cases k <;> rfl
@[simp] theorem setLen_outcnt (s : State) (k : Sel) (i : Nat) (v : BitVec 4) : (s.setLen k i v).outcnt = s.outcnt := by cases k <;> rfl
@[simp] theorem setLen_loc (s : State) (k : Sel) (i : Nat) (v : BitVec 4) : (s.setLen k i v).loc = s.loc := by cases k <;> rfl
@[simp] theorem setLen_staged (s : State) (k : Sel) (i : Nat) (v : BitVec 4) : (s.setLen k i v).staged = s.staged := by cases k <;> rfl
@[simp] theorem setLen_cmds (s : State) (k : Sel) (i : Nat) (v : BitVec 4) : (s.setLen k i v).cmds = s.cmds := by cases k <;> rfl
@[simp] theorem setLen_input (s : State) (k : Sel) (i : Nat) (v : BitVec 4) : (s.setLen k i v).input = s.input := by cases k <;> rfl
@[simp] theorem setLen_output (s : State) (k : Sel) (i : Nat) (v : BitVec 4) : (s.setLen k i v).output = s.output := by cases k <;> rfl
@[simp] theorem setLen_resp (s : State) (k : Sel) (i : Nat) (v : BitVec 4) : (s.setLen k i v).resp = s.resp := by cases k <;> rfl
@[simp] theorem setLen_codes (s : State) (k : Sel) (i : Nat) (v : BitVec 4) (k0 : Sel) : (s.setLen k i v).codes k0 = s.codes k0 := by cases k0 <;> cases k <;> rfl
@[simp] theorem setLen_codeAt (s : State) (k : Sel) (i : Nat) (v : BitVec 4) (k0 : Sel) (i0 : Nat) : (s.setLen k i v).codeAt k0 i0 = s.codeAt k0 i0 := by cases k0 <;> cases k <;> rfl
@[simp] theorem setLen_tree (s : State) (k : Sel) (i : Nat) (v : BitVec 4) (k0 : Sel) : (s.setLen k i v).tree k0 = s.tree k0 := by cases k0 <;> cases k <;> rfl
@[simp] theorem setLen_bitsLeft (s : State) (k : Sel) (i : Nat) (v : BitVec 4) : (s.setLen k i v).bitsLeft = s.bitsLeft := by simp [State.bitsLeft]

/-! ### clearLens -/

@[simp] theorem clearLens_sstate (s : State) (k : Sel) : (s.clearLens k).sstate = s.sstate := by cases k <;> rfl
@[simp] theorem clearLens_errCode (s : State) (k : Sel) : (s.clearLens k).errCode = s.errCode := by cases k <;> rfl
@[simp] theorem clearLens_errBlock (s : State) (k : Sel) : (s.clearLens k).errBlock = s.errBlock := by cases k <;> rfl
@[simp] theorem clearLens_errPhase (s : State) (k : Sel) : (s.clearLens k).errPhase = s.errPhase := by cases k <;> rfl
@[simp] theorem clearLens_errBitpos (s : State) (k : Sel) : (s.clearLens k).errBitpos = s.errBitpos := by cases k <;> rfl
@[simp] theorem clearLens_brAcc (s : State) (k : Sel) : (s.clearLens k).brAcc = s.brAcc := by cases k <;> rfl
@[simp] theorem clearLens_brCnt (s : State) (k : Sel) : (s.clearLens k).brCnt = s.brCnt := by cases k <;> rfl
@[simp] theorem clearLens_bitpos (s : State) (k : Sel) : (s.clearLens k).bitpos = s.bitpos := by cases k <;> rfl
@[simp] theorem clearLens_blkcnt (s : State) (k : Sel) : (s.clearLens k).blkcnt = s.blkcnt := by cases k <;> rfl
@[simp] theorem clearLens_bhdr (s : State) (k : Sel) : (s.clearLens k).bhdr = s.bhdr := by cases k <;> rfl
@[simp] theorem clearLens_phase (s : State) (k : Sel) : (s.clearLens k).phase = s.phase := by cases k <;> rfl
@[simp] theorem clearLens_codeCL (s : State) (k : Sel) : (s.clearLens k).codeCL = s.codeCL := by cases k <;> rfl
@[simp] theorem clearLens_codeLL (s : State) (k : Sel) : (s.clearLens k).codeLL = s.codeLL := by cases k <;> rfl
@[simp] theorem clearLens_codeDIST (s : State) (k : Sel) : (s.clearLens k).codeDIST = s.codeDIST := by cases k <;> rfl
@[simp] theorem clearLens_treeCL (s : State) (k : Sel) : (s.clearLens k).treeCL = s.treeCL := by cases k <;> rfl
@[simp] theorem clearLens_treeLL (s : State) (k : Sel) : (s.clearLens k).treeLL = s.treeLL := by cases k <;> rfl
@[simp] theorem clearLens_treeDIST (s : State) (k : Sel) : (s.clearLens k).treeDIST = s.treeDIST := by cases k <;> rfl
@[simp] theorem clearLens_win (s : State) (k : Sel) : (s.clearLens k).win = s.win := by cases k <;> rfl
@[simp] theorem clearLens_wptr (s : State) (k : Sel) : (s.clearLens k).wptr = s.wptr := by cases k <;> rfl
@[simp] theorem clearLens_wfill (s : State) (k : Sel) : (s.clearLens k).wfill = s.wfill := by cases k <;> rfl
@[simp] theorem clearLens_outcnt (s : State) (k : Sel) : (s.clearLens k).outcnt = s.outcnt := by cases k <;> rfl
@[simp] theorem clearLens_loc (s : State) (k : Sel) : (s.clearLens k).loc = s.loc := by cases k <;> rfl
@[simp] theorem clearLens_staged (s : State) (k : Sel) : (s.clearLens k).staged = s.staged := by cases k <;> rfl
@[simp] theorem clearLens_cmds (s : State) (k : Sel) : (s.clearLens k).cmds = s.cmds := by cases k <;> rfl
@[simp] theorem clearLens_input (s : State) (k : Sel) : (s.clearLens k).input = s.input := by cases k <;> rfl
@[simp] theorem clearLens_output (s : State) (k : Sel) : (s.clearLens k).output = s.output := by cases k <;> rfl
@[simp] theorem clearLens_resp (s : State) (k : Sel) : (s.clearLens k).resp = s.resp := by cases k <;> rfl
@[simp] theorem clearLens_codes (s : State) (k : Sel) (k0 : Sel) : (s.clearLens k).codes k0 = s.codes k0 := by cases k0 <;> cases k <;> rfl
@[simp] theorem clearLens_codeAt (s : State) (k : Sel) (k0 : Sel) (i0 : Nat) : (s.clearLens k).codeAt k0 i0 = s.codeAt k0 i0 := by cases k0 <;> cases k <;> rfl
@[simp] theorem clearLens_tree (s : State) (k : Sel) (k0 : Sel) : (s.clearLens k).tree k0 = s.tree k0 := by cases k0 <;> cases k <;> rfl
@[simp] theorem clearLens_bitsLeft (s : State) (k : Sel) : (s.clearLens k).bitsLeft = s.bitsLeft := by simp [State.bitsLeft]

/-! ### buildCodes -/

@[simp] theorem buildCodes_sstate (s : State) (k : Sel) : (s.buildCodes k).sstate = s.sstate := by cases k <;> rfl
@[simp] theorem buildCodes_errCode (s : State) (k : Sel) : (s.buildCodes k).errCode = s.errCode := by cases k <;> rfl
@[simp] theorem buildCodes_errBlock (s : State) (k : Sel) : (s.buildCodes k).errBlock = s.errBlock := by cases k <;> rfl
@[simp] theorem buildCodes_errPhase (s : State) (k : Sel) : (s.buildCodes k).errPhase = s.errPhase := by cases k <;> rfl
@[simp] theorem buildCodes_errBitpos (s : State) (k : Sel) : (s.buildCodes k).errBitpos = s.errBitpos := by cases k <;> rfl
@[simp] theorem buildCodes_brAcc (s : State) (k : Sel) : (s.buildCodes k).brAcc = s.brAcc := by cases k <;> rfl
@[simp] theorem buildCodes_brCnt (s : State) (k : Sel) : (s.buildCodes k).brCnt = s.brCnt := by cases k <;> rfl
@[simp] theorem buildCodes_bitpos (s : State) (k : Sel) : (s.buildCodes k).bitpos = s.bitpos := by cases k <;> rfl
@[simp] theorem buildCodes_blkcnt (s : State) (k : Sel) : (s.buildCodes k).blkcnt = s.blkcnt := by cases k <;> rfl
@[simp] theorem buildCodes_bhdr (s : State) (k : Sel) : (s.buildCodes k).bhdr = s.bhdr := by cases k <;> rfl
@[simp] theorem buildCodes_phase (s : State) (k : Sel) : (s.buildCodes k).phase = s.phase := by cases k <;> rfl
@[simp] theorem buildCodes_lenCL (s : State) (k : Sel) : (s.buildCodes k).lenCL = s.lenCL := by cases k <;> rfl
@[simp] theorem buildCodes_lenLL (s : State) (k : Sel) : (s.buildCodes k).lenLL = s.lenLL := by cases k <;> rfl
@[simp] theorem buildCodes_lenDIST (s : State) (k : Sel) : (s.buildCodes k).lenDIST = s.lenDIST := by cases k <;> rfl
@[simp] theorem buildCodes_treeCL (s : State) (k : Sel) : (s.buildCodes k).treeCL = s.treeCL := by cases k <;> rfl
@[simp] theorem buildCodes_treeLL (s : State) (k : Sel) : (s.buildCodes k).treeLL = s.treeLL := by cases k <;> rfl
@[simp] theorem buildCodes_treeDIST (s : State) (k : Sel) : (s.buildCodes k).treeDIST = s.treeDIST := by cases k <;> rfl
@[simp] theorem buildCodes_win (s : State) (k : Sel) : (s.buildCodes k).win = s.win := by cases k <;> rfl
@[simp] theorem buildCodes_wptr (s : State) (k : Sel) : (s.buildCodes k).wptr = s.wptr := by cases k <;> rfl
@[simp] theorem buildCodes_wfill (s : State) (k : Sel) : (s.buildCodes k).wfill = s.wfill := by cases k <;> rfl
@[simp] theorem buildCodes_outcnt (s : State) (k : Sel) : (s.buildCodes k).outcnt = s.outcnt := by cases k <;> rfl
@[simp] theorem buildCodes_loc (s : State) (k : Sel) : (s.buildCodes k).loc = s.loc := by cases k <;> rfl
@[simp] theorem buildCodes_staged (s : State) (k : Sel) : (s.buildCodes k).staged = s.staged := by cases k <;> rfl
@[simp] theorem buildCodes_cmds (s : State) (k : Sel) : (s.buildCodes k).cmds = s.cmds := by cases k <;> rfl
@[simp] theorem buildCodes_input (s : State) (k : Sel) : (s.buildCodes k).input = s.input := by cases k <;> rfl
@[simp] theorem buildCodes_output (s : State) (k : Sel) : (s.buildCodes k).output = s.output := by cases k <;> rfl
@[simp] theorem buildCodes_resp (s : State) (k : Sel) : (s.buildCodes k).resp = s.resp := by cases k <;> rfl
@[simp] theorem buildCodes_lenAt (s : State) (k : Sel) (k0 : Sel) (i0 : Nat) : (s.buildCodes k).lenAt k0 i0 = s.lenAt k0 i0 := by cases k0 <;> cases k <;> rfl
@[simp] theorem buildCodes_lens (s : State) (k : Sel) (k0 : Sel) : (s.buildCodes k).lens k0 = s.lens k0 := by cases k0 <;> cases k <;> rfl
@[simp] theorem buildCodes_tree (s : State) (k : Sel) (k0 : Sel) : (s.buildCodes k).tree k0 = s.tree k0 := by cases k0 <;> cases k <;> rfl
@[simp] theorem buildCodes_bitsLeft (s : State) (k : Sel) : (s.buildCodes k).bitsLeft = s.bitsLeft := by simp [State.bitsLeft]

/-! ### setTree -/

@[simp] theorem setTree_sstate (s : State) (k : Sel) (t : Tree) : (s.setTree k t).sstate = s.sstate := by cases k <;> rfl
@[simp] theorem setTree_errCode (s : State) (k : Sel) (t : Tree) : (s.setTree k t).errCode = s.errCode := by cases k <;> rfl
@[simp] theorem setTree_errBlock (s : State) (k : Sel) (t : Tree) : (s.setTree k t).errBlock = s.errBlock := by cases k <;> rfl
@[simp] theorem setTree_errPhase (s : State) (k : Sel) (t : Tree) : (s.setTree k t).errPhase = s.errPhase := by cases k <;> rfl
@[simp] theorem setTree_errBitpos (s : State) (k : Sel) (t : Tree) : (s.setTree k t).errBitpos = s.errBitpos := by cases k <;> rfl
@[simp] theorem setTree_brAcc (s : State) (k : Sel) (t : Tree) : (s.setTree k t).brAcc = s.brAcc := by cases k <;> rfl
@[simp] theorem setTree_brCnt (s : State) (k : Sel) (t : Tree) : (s.setTree k t).brCnt = s.brCnt := by cases k <;> rfl
@[simp] theorem setTree_bitpos (s : State) (k : Sel) (t : Tree) : (s.setTree k t).bitpos = s.bitpos := by cases k <;> rfl
@[simp] theorem setTree_blkcnt (s : State) (k : Sel) (t : Tree) : (s.setTree k t).blkcnt = s.blkcnt := by cases k <;> rfl
@[simp] theorem setTree_bhdr (s : State) (k : Sel) (t : Tree) : (s.setTree k t).bhdr = s.bhdr := by cases k <;> rfl
@[simp] theorem setTree_phase (s : State) (k : Sel) (t : Tree) : (s.setTree k t).phase = s.phase := by cases k <;> rfl
@[simp] theorem setTree_lenCL (s : State) (k : Sel) (t : Tree) : (s.setTree k t).lenCL = s.lenCL := by cases k <;> rfl
@[simp] theorem setTree_lenLL (s : State) (k : Sel) (t : Tree) : (s.setTree k t).lenLL = s.lenLL := by cases k <;> rfl
@[simp] theorem setTree_lenDIST (s : State) (k : Sel) (t : Tree) : (s.setTree k t).lenDIST = s.lenDIST := by cases k <;> rfl
@[simp] theorem setTree_codeCL (s : State) (k : Sel) (t : Tree) : (s.setTree k t).codeCL = s.codeCL := by cases k <;> rfl
@[simp] theorem setTree_codeLL (s : State) (k : Sel) (t : Tree) : (s.setTree k t).codeLL = s.codeLL := by cases k <;> rfl
@[simp] theorem setTree_codeDIST (s : State) (k : Sel) (t : Tree) : (s.setTree k t).codeDIST = s.codeDIST := by cases k <;> rfl
@[simp] theorem setTree_win (s : State) (k : Sel) (t : Tree) : (s.setTree k t).win = s.win := by cases k <;> rfl
@[simp] theorem setTree_wptr (s : State) (k : Sel) (t : Tree) : (s.setTree k t).wptr = s.wptr := by cases k <;> rfl
@[simp] theorem setTree_wfill (s : State) (k : Sel) (t : Tree) : (s.setTree k t).wfill = s.wfill := by cases k <;> rfl
@[simp] theorem setTree_outcnt (s : State) (k : Sel) (t : Tree) : (s.setTree k t).outcnt = s.outcnt := by cases k <;> rfl
@[simp] theorem setTree_loc (s : State) (k : Sel) (t : Tree) : (s.setTree k t).loc = s.loc := by cases k <;> rfl
@[simp] theorem setTree_staged (s : State) (k : Sel) (t : Tree) : (s.setTree k t).staged = s.staged := by cases k <;> rfl
@[simp] theorem setTree_cmds (s : State) (k : Sel) (t : Tree) : (s.setTree k t).cmds = s.cmds := by cases k <;> rfl
@[simp] theorem setTree_input (s : State) (k : Sel) (t : Tree) : (s.setTree k t).input = s.input := by cases k <;> rfl
@[simp] theorem setTree_output (s : State) (k : Sel) (t : Tree) : (s.setTree k t).output = s.output := by cases k <;> rfl
@[simp] theorem setTree_resp (s : State) (k : Sel) (t : Tree) : (s.setTree k t).resp = s.resp := by cases k <;> rfl
@[simp] theorem setTree_lenAt (s : State) (k : Sel) (t : Tree) (k0 : Sel) (i0 : Nat) : (s.setTree k t).lenAt k0 i0 = s.lenAt k0 i0 := by cases k0 <;> cases k <;> rfl
@[simp] theorem setTree_lens (s : State) (k : Sel) (t : Tree) (k0 : Sel) : (s.setTree k t).lens k0 = s.lens k0 := by cases k0 <;> cases k <;> rfl
@[simp] theorem setTree_codes (s : State) (k : Sel) (t : Tree) (k0 : Sel) : (s.setTree k t).codes k0 = s.codes k0 := by cases k0 <;> cases k <;> rfl
@[simp] theorem setTree_codeAt (s : State) (k : Sel) (t : Tree) (k0 : Sel) (i0 : Nat) : (s.setTree k t).codeAt k0 i0 = s.codeAt k0 i0 := by cases k0 <;> cases k <;> rfl
@[simp] theorem setTree_bitsLeft (s : State) (k : Sel) (t : Tree) : (s.setTree k t).bitsLeft = s.bitsLeft := by simp [State.bitsLeft]

/-! ### append -/

@[simp] theorem append_sstate (s : State) (b : Byte) : (s.append b).sstate = s.sstate := rfl
@[simp] theorem append_errCode (s : State) (b : Byte) : (s.append b).errCode = s.errCode := rfl
@[simp] theorem append_errBlock (s : State) (b : Byte) : (s.append b).errBlock = s.errBlock := rfl
@[simp] theorem append_errPhase (s : State) (b : Byte) : (s.append b).errPhase = s.errPhase := rfl
@[simp] theorem append_errBitpos (s : State) (b : Byte) : (s.append b).errBitpos = s.errBitpos := rfl
@[simp] theorem append_brAcc (s : State) (b : Byte) : (s.append b).brAcc = s.brAcc := rfl
@[simp] theorem append_brCnt (s : State) (b : Byte) : (s.append b).brCnt = s.brCnt := rfl
@[simp] theorem append_bitpos (s : State) (b : Byte) : (s.append b).bitpos = s.bitpos := rfl
@[simp] theorem append_blkcnt (s : State) (b : Byte) : (s.append b).blkcnt = s.blkcnt := rfl
@[simp] theorem append_bhdr (s : State) (b : Byte) : (s.append b).bhdr = s.bhdr := rfl
@[simp] theorem append_phase (s : State) (b : Byte) : (s.append b).phase = s.phase := rfl
@[simp] theorem append_lenCL (s : State) (b : Byte) : (s.append b).lenCL = s.lenCL := rfl
@[simp] theorem append_lenLL (s : State) (b : Byte) : (s.append b).lenLL = s.lenLL := rfl
@[simp] theorem append_lenDIST (s : State) (b : Byte) : (s.append b).lenDIST = s.lenDIST := rfl
@[simp] theorem append_codeCL (s : State) (b : Byte) : (s.append b).codeCL = s.codeCL := rfl
@[simp] theorem append_codeLL (s : State) (b : Byte) : (s.append b).codeLL = s.codeLL := rfl
@[simp] theorem append_codeDIST (s : State) (b : Byte) : (s.append b).codeDIST = s.codeDIST := rfl
@[simp] theorem append_treeCL (s : State) (b : Byte) : (s.append b).treeCL = s.treeCL := rfl
@[simp] theorem append_treeLL (s : State) (b : Byte) : (s.append b).treeLL = s.treeLL := rfl
@[simp] theorem append_treeDIST (s : State) (b : Byte) : (s.append b).treeDIST = s.treeDIST := rfl
@[simp] theorem append_win (s : State) (b : Byte) : (s.append b).win = Memory.write s.win s.wptr.toNat b := rfl
@[simp] theorem append_wptr (s : State) (b : Byte) : (s.append b).wptr = s.wptr + 1 := rfl
@[simp] theorem append_wfill (s : State) (b : Byte) : (s.append b).wfill = fillNext s.wfill := rfl
@[simp] theorem append_outcnt (s : State) (b : Byte) : (s.append b).outcnt = s.outcnt + 1 := rfl
@[simp] theorem append_loc (s : State) (b : Byte) : (s.append b).loc = s.loc := rfl
@[simp] theorem append_staged (s : State) (b : Byte) : (s.append b).staged = s.staged := rfl
@[simp] theorem append_cmds (s : State) (b : Byte) : (s.append b).cmds = s.cmds := rfl
@[simp] theorem append_input (s : State) (b : Byte) : (s.append b).input = s.input := rfl
@[simp] theorem append_output (s : State) (b : Byte) : (s.append b).output = s.output ++ [b] := rfl
@[simp] theorem append_resp (s : State) (b : Byte) : (s.append b).resp = s.resp := rfl
@[simp] theorem append_lenAt (s : State) (b : Byte) (k0 : Sel) (i0 : Nat) : (s.append b).lenAt k0 i0 = s.lenAt k0 i0 := by cases k0 <;> rfl
@[simp] theorem append_lens (s : State) (b : Byte) (k0 : Sel) : (s.append b).lens k0 = s.lens k0 := by cases k0 <;> rfl
@[simp] theorem append_codes (s : State) (b : Byte) (k0 : Sel) : (s.append b).codes k0 = s.codes k0 := by cases k0 <;> rfl
@[simp] theorem append_codeAt (s : State) (b : Byte) (k0 : Sel) (i0 : Nat) : (s.append b).codeAt k0 i0 = s.codeAt k0 i0 := by cases k0 <;> rfl
@[simp] theorem append_tree (s : State) (b : Byte) (k0 : Sel) : (s.append b).tree k0 = s.tree k0 := by cases k0 <;> rfl
@[simp] theorem append_bitsLeft (s : State) (b : Byte) : (s.append b).bitsLeft = s.bitsLeft := by simp [State.bitsLeft]

/-! ### setPhase -/

@[simp] theorem setPhase_sstate (s : State) (p : Phase) : (s.setPhase p).sstate = s.sstate := rfl
@[simp] theorem setPhase_errCode (s : State) (p : Phase) : (s.setPhase p).errCode = s.errCode := rfl
@[simp] theorem setPhase_errBlock (s : State) (p : Phase) : (s.setPhase p).errBlock = s.errBlock := rfl
@[simp] theorem setPhase_errPhase (s : State) (p : Phase) : (s.setPhase p).errPhase = s.errPhase := rfl
@[simp] theorem setPhase_errBitpos (s : State) (p : Phase) : (s.setPhase p).errBitpos = s.errBitpos := rfl
@[simp] theorem setPhase_brAcc (s : State) (p : Phase) : (s.setPhase p).brAcc = s.brAcc := rfl
@[simp] theorem setPhase_brCnt (s : State) (p : Phase) : (s.setPhase p).brCnt = s.brCnt := rfl
@[simp] theorem setPhase_bitpos (s : State) (p : Phase) : (s.setPhase p).bitpos = s.bitpos := rfl
@[simp] theorem setPhase_blkcnt (s : State) (p : Phase) : (s.setPhase p).blkcnt = s.blkcnt := rfl
@[simp] theorem setPhase_bhdr (s : State) (p : Phase) : (s.setPhase p).bhdr = s.bhdr := rfl
@[simp] theorem setPhase_phase (s : State) (p : Phase) : (s.setPhase p).phase = p := rfl
@[simp] theorem setPhase_lenCL (s : State) (p : Phase) : (s.setPhase p).lenCL = s.lenCL := rfl
@[simp] theorem setPhase_lenLL (s : State) (p : Phase) : (s.setPhase p).lenLL = s.lenLL := rfl
@[simp] theorem setPhase_lenDIST (s : State) (p : Phase) : (s.setPhase p).lenDIST = s.lenDIST := rfl
@[simp] theorem setPhase_codeCL (s : State) (p : Phase) : (s.setPhase p).codeCL = s.codeCL := rfl
@[simp] theorem setPhase_codeLL (s : State) (p : Phase) : (s.setPhase p).codeLL = s.codeLL := rfl
@[simp] theorem setPhase_codeDIST (s : State) (p : Phase) : (s.setPhase p).codeDIST = s.codeDIST := rfl
@[simp] theorem setPhase_treeCL (s : State) (p : Phase) : (s.setPhase p).treeCL = s.treeCL := rfl
@[simp] theorem setPhase_treeLL (s : State) (p : Phase) : (s.setPhase p).treeLL = s.treeLL := rfl
@[simp] theorem setPhase_treeDIST (s : State) (p : Phase) : (s.setPhase p).treeDIST = s.treeDIST := rfl
@[simp] theorem setPhase_win (s : State) (p : Phase) : (s.setPhase p).win = s.win := rfl
@[simp] theorem setPhase_wptr (s : State) (p : Phase) : (s.setPhase p).wptr = s.wptr := rfl
@[simp] theorem setPhase_wfill (s : State) (p : Phase) : (s.setPhase p).wfill = s.wfill := rfl
@[simp] theorem setPhase_outcnt (s : State) (p : Phase) : (s.setPhase p).outcnt = s.outcnt := rfl
@[simp] theorem setPhase_loc (s : State) (p : Phase) : (s.setPhase p).loc = s.loc := rfl
@[simp] theorem setPhase_staged (s : State) (p : Phase) : (s.setPhase p).staged = s.staged := rfl
@[simp] theorem setPhase_cmds (s : State) (p : Phase) : (s.setPhase p).cmds = s.cmds := rfl
@[simp] theorem setPhase_input (s : State) (p : Phase) : (s.setPhase p).input = s.input := rfl
@[simp] theorem setPhase_output (s : State) (p : Phase) : (s.setPhase p).output = s.output := rfl
@[simp] theorem setPhase_resp (s : State) (p : Phase) : (s.setPhase p).resp = s.resp := rfl
@[simp] theorem setPhase_lenAt (s : State) (p : Phase) (k0 : Sel) (i0 : Nat) : (s.setPhase p).lenAt k0 i0 = s.lenAt k0 i0 := by cases k0 <;> rfl
@[simp] theorem setPhase_lens (s : State) (p : Phase) (k0 : Sel) : (s.setPhase p).lens k0 = s.lens k0 := by cases k0 <;> rfl
@[simp] theorem setPhase_codes (s : State) (p : Phase) (k0 : Sel) : (s.setPhase p).codes k0 = s.codes k0 := by cases k0 <;> rfl
@[simp] theorem setPhase_codeAt (s : State) (p : Phase) (k0 : Sel) (i0 : Nat) : (s.setPhase p).codeAt k0 i0 = s.codeAt k0 i0 := by cases k0 <;> rfl
@[simp] theorem setPhase_tree (s : State) (p : Phase) (k0 : Sel) : (s.setPhase p).tree k0 = s.tree k0 := by cases k0 <;> rfl
@[simp] theorem setPhase_bitsLeft (s : State) (p : Phase) : (s.setPhase p).bitsLeft = s.bitsLeft := by simp [State.bitsLeft]

/-! ### setBhdr -/

@[simp] theorem setBhdr_sstate (s : State) (lo n v : Nat) : (s.setBhdr lo n v).sstate = s.sstate := rfl
@[simp] theorem setBhdr_errCode (s : State) (lo n v : Nat) : (s.setBhdr lo n v).errCode = s.errCode := rfl
@[simp] theorem setBhdr_errBlock (s : State) (lo n v : Nat) : (s.setBhdr lo n v).errBlock = s.errBlock := rfl
@[simp] theorem setBhdr_errPhase (s : State) (lo n v : Nat) : (s.setBhdr lo n v).errPhase = s.errPhase := rfl
@[simp] theorem setBhdr_errBitpos (s : State) (lo n v : Nat) : (s.setBhdr lo n v).errBitpos = s.errBitpos := rfl
@[simp] theorem setBhdr_brAcc (s : State) (lo n v : Nat) : (s.setBhdr lo n v).brAcc = s.brAcc := rfl
@[simp] theorem setBhdr_brCnt (s : State) (lo n v : Nat) : (s.setBhdr lo n v).brCnt = s.brCnt := rfl
@[simp] theorem setBhdr_bitpos (s : State) (lo n v : Nat) : (s.setBhdr lo n v).bitpos = s.bitpos := rfl
@[simp] theorem setBhdr_blkcnt (s : State) (lo n v : Nat) : (s.setBhdr lo n v).blkcnt = s.blkcnt := rfl
@[simp] theorem setBhdr_phase (s : State) (lo n v : Nat) : (s.setBhdr lo n v).phase = s.phase := rfl
@[simp] theorem setBhdr_lenCL (s : State) (lo n v : Nat) : (s.setBhdr lo n v).lenCL = s.lenCL := rfl
@[simp] theorem setBhdr_lenLL (s : State) (lo n v : Nat) : (s.setBhdr lo n v).lenLL = s.lenLL := rfl
@[simp] theorem setBhdr_lenDIST (s : State) (lo n v : Nat) : (s.setBhdr lo n v).lenDIST = s.lenDIST := rfl
@[simp] theorem setBhdr_codeCL (s : State) (lo n v : Nat) : (s.setBhdr lo n v).codeCL = s.codeCL := rfl
@[simp] theorem setBhdr_codeLL (s : State) (lo n v : Nat) : (s.setBhdr lo n v).codeLL = s.codeLL := rfl
@[simp] theorem setBhdr_codeDIST (s : State) (lo n v : Nat) : (s.setBhdr lo n v).codeDIST = s.codeDIST := rfl
@[simp] theorem setBhdr_treeCL (s : State) (lo n v : Nat) : (s.setBhdr lo n v).treeCL = s.treeCL := rfl
@[simp] theorem setBhdr_treeLL (s : State) (lo n v : Nat) : (s.setBhdr lo n v).treeLL = s.treeLL := rfl
@[simp] theorem setBhdr_treeDIST (s : State) (lo n v : Nat) : (s.setBhdr lo n v).treeDIST = s.treeDIST := rfl
@[simp] theorem setBhdr_win (s : State) (lo n v : Nat) : (s.setBhdr lo n v).win = s.win := rfl
@[simp] theorem setBhdr_wptr (s : State) (lo n v : Nat) : (s.setBhdr lo n v).wptr = s.wptr := rfl
@[simp] theorem setBhdr_wfill (s : State) (lo n v : Nat) : (s.setBhdr lo n v).wfill = s.wfill := rfl
@[simp] theorem setBhdr_outcnt (s : State) (lo n v : Nat) : (s.setBhdr lo n v).outcnt = s.outcnt := rfl
@[simp] theorem setBhdr_loc (s : State) (lo n v : Nat) : (s.setBhdr lo n v).loc = s.loc := rfl
@[simp] theorem setBhdr_staged (s : State) (lo n v : Nat) : (s.setBhdr lo n v).staged = s.staged := rfl
@[simp] theorem setBhdr_cmds (s : State) (lo n v : Nat) : (s.setBhdr lo n v).cmds = s.cmds := rfl
@[simp] theorem setBhdr_input (s : State) (lo n v : Nat) : (s.setBhdr lo n v).input = s.input := rfl
@[simp] theorem setBhdr_output (s : State) (lo n v : Nat) : (s.setBhdr lo n v).output = s.output := rfl
@[simp] theorem setBhdr_resp (s : State) (lo n v : Nat) : (s.setBhdr lo n v).resp = s.resp := rfl
@[simp] theorem setBhdr_lenAt (s : State) (lo n v : Nat) (k0 : Sel) (i0 : Nat) : (s.setBhdr lo n v).lenAt k0 i0 = s.lenAt k0 i0 := by cases k0 <;> rfl
@[simp] theorem setBhdr_lens (s : State) (lo n v : Nat) (k0 : Sel) : (s.setBhdr lo n v).lens k0 = s.lens k0 := by cases k0 <;> rfl
@[simp] theorem setBhdr_codes (s : State) (lo n v : Nat) (k0 : Sel) : (s.setBhdr lo n v).codes k0 = s.codes k0 := by cases k0 <;> rfl
@[simp] theorem setBhdr_codeAt (s : State) (lo n v : Nat) (k0 : Sel) (i0 : Nat) : (s.setBhdr lo n v).codeAt k0 i0 = s.codeAt k0 i0 := by cases k0 <;> rfl
@[simp] theorem setBhdr_tree (s : State) (lo n v : Nat) (k0 : Sel) : (s.setBhdr lo n v).tree k0 = s.tree k0 := by cases k0 <;> rfl
@[simp] theorem setBhdr_bitsLeft (s : State) (lo n v : Nat) : (s.setBhdr lo n v).bitsLeft = s.bitsLeft := by simp [State.bitsLeft]

/-! ### blockDone -/

@[simp] theorem blockDone_sstate (s : State)  : (s.blockDone).sstate = if s.bhdr.getLsbD 0 then .done else s.sstate := rfl
@[simp] theorem blockDone_errCode (s : State)  : (s.blockDone).errCode = s.errCode := rfl
@[simp] theorem blockDone_errBlock (s : State)  : (s.blockDone).errBlock = s.errBlock := rfl
@[simp] theorem blockDone_errPhase (s : State)  : (s.blockDone).errPhase = s.errPhase := rfl
@[simp] theorem blockDone_errBitpos (s : State)  : (s.blockDone).errBitpos = s.errBitpos := rfl
@[simp] theorem blockDone_brAcc (s : State)  : (s.blockDone).brAcc = s.brAcc := rfl
@[simp] theorem blockDone_brCnt (s : State)  : (s.blockDone).brCnt = s.brCnt := rfl
@[simp] theorem blockDone_bitpos (s : State)  : (s.blockDone).bitpos = s.bitpos := rfl
@[simp] theorem blockDone_blkcnt (s : State)  : (s.blockDone).blkcnt = s.blkcnt + 1 := rfl
@[simp] theorem blockDone_bhdr (s : State)  : (s.blockDone).bhdr = s.bhdr := rfl
@[simp] theorem blockDone_phase (s : State)  : (s.blockDone).phase = .blockDone := rfl
@[simp] theorem blockDone_lenCL (s : State)  : (s.blockDone).lenCL = s.lenCL := rfl
@[simp] theorem blockDone_lenLL (s : State)  : (s.blockDone).lenLL = s.lenLL := rfl
@[simp] theorem blockDone_lenDIST (s : State)  : (s.blockDone).lenDIST = s.lenDIST := rfl
@[simp] theorem blockDone_codeCL (s : State)  : (s.blockDone).codeCL = s.codeCL := rfl
@[simp] theorem blockDone_codeLL (s : State)  : (s.blockDone).codeLL = s.codeLL := rfl
@[simp] theorem blockDone_codeDIST (s : State)  : (s.blockDone).codeDIST = s.codeDIST := rfl
@[simp] theorem blockDone_treeCL (s : State)  : (s.blockDone).treeCL = s.treeCL := rfl
@[simp] theorem blockDone_treeLL (s : State)  : (s.blockDone).treeLL = s.treeLL := rfl
@[simp] theorem blockDone_treeDIST (s : State)  : (s.blockDone).treeDIST = s.treeDIST := rfl
@[simp] theorem blockDone_win (s : State)  : (s.blockDone).win = s.win := rfl
@[simp] theorem blockDone_wptr (s : State)  : (s.blockDone).wptr = s.wptr := rfl
@[simp] theorem blockDone_wfill (s : State)  : (s.blockDone).wfill = s.wfill := rfl
@[simp] theorem blockDone_outcnt (s : State)  : (s.blockDone).outcnt = s.outcnt := rfl
@[simp] theorem blockDone_loc (s : State)  : (s.blockDone).loc = s.loc := rfl
@[simp] theorem blockDone_staged (s : State)  : (s.blockDone).staged = s.staged := rfl
@[simp] theorem blockDone_cmds (s : State)  : (s.blockDone).cmds = s.cmds := rfl
@[simp] theorem blockDone_input (s : State)  : (s.blockDone).input = s.input := rfl
@[simp] theorem blockDone_output (s : State)  : (s.blockDone).output = s.output := rfl
@[simp] theorem blockDone_resp (s : State)  : (s.blockDone).resp = s.resp := rfl
@[simp] theorem blockDone_lenAt (s : State)  (k0 : Sel) (i0 : Nat) : (s.blockDone).lenAt k0 i0 = s.lenAt k0 i0 := by cases k0 <;> rfl
@[simp] theorem blockDone_lens (s : State)  (k0 : Sel) : (s.blockDone).lens k0 = s.lens k0 := by cases k0 <;> rfl
@[simp] theorem blockDone_codes (s : State)  (k0 : Sel) : (s.blockDone).codes k0 = s.codes k0 := by cases k0 <;> rfl
@[simp] theorem blockDone_codeAt (s : State)  (k0 : Sel) (i0 : Nat) : (s.blockDone).codeAt k0 i0 = s.codeAt k0 i0 := by cases k0 <;> rfl
@[simp] theorem blockDone_tree (s : State)  (k0 : Sel) : (s.blockDone).tree k0 = s.tree k0 := by cases k0 <;> rfl
@[simp] theorem blockDone_bitsLeft (s : State)  : (s.blockDone).bitsLeft = s.bitsLeft := by simp [State.bitsLeft]

/-! ### Trees under setTree -/

@[simp] theorem setTree_tree_same (s : State) (k : Sel) (t : Tree) : (s.setTree k t).tree k = t := by cases k <;> rfl

theorem setTree_tree_other (s : State) (k j : Sel) (t : Tree) (h : j ≠ k) : (s.setTree k t).tree j = s.tree j := by
  cases k <;> cases j <;> first | rfl | exact absurd rfl h

@[simp] theorem setTree_setTree (s : State) (k : Sel) (t u : Tree) : (s.setTree k t).setTree k u = s.setTree k u := by
  cases k <;> rfl

@[simp] theorem setTree_tree_self (s : State) (k : Sel) : s.setTree k (s.tree k) = s := by cases k <;> rfl

/-! ### Locals -/

@[simp] theorem setLoc_setLoc (s : State) (l m : Locals) : (s.setLoc l).setLoc m = s.setLoc m := rfl

/-! ### Sequencing -/

@[simp] theorem Res.bind_ok {α β : Type} (a : α) (s : State) (f : α → State → Res β) :
    (Res.ok a s).bind f = f a s := rfl

@[simp] theorem Res.bind_err {α β : Type} (e : Status) (s : State) (f : α → State → Res β) :
    (Res.err e s).bind f = .err e s := rfl

@[simp] theorem Res.bind_stuck {α β : Type} (f : α → State → Res β) : (Res.stuck : Res α).bind f = .stuck := rfl

theorem Res.bind_assoc {α β γ : Type} (r : Res α) (f : α → State → Res β) (g : β → State → Res γ) :
    (r.bind f).bind g = r.bind fun a s => (f a s).bind g := by
  cases r <;> rfl

/-- A sequence goes on only where both pieces do. -/
theorem Res.bind_eq_ok {α β : Type} {r : Res α} {f : α → State → Res β} {b : β} {t : State}
    (h : r.bind f = .ok b t) : ∃ a s, r = .ok a s ∧ f a s = .ok b t := by
  cases r with
  | ok a s => exact ⟨a, s, rfl, h⟩
  | err e s => simp at h
  | stuck => simp at h

end Sys2Proof.Machine
end

