-- ==== Sys2Proof/Laws/BitReader.lean ====
section
/-! SUPPORT. The bit reader: what a top-up and a read do, said once. -/

namespace Sys2Proof.Machine

/-- The counter does not wrap when a byte is added below 56 buffered bits. -/
theorem cnt_add_eight {cnt : BitVec 6} (h : cnt.toNat < 56) : (cnt + 8).toNat = cnt.toNat + 8 := by
  rw [BitVec.toNat_add]
  have : (8 : BitVec 6).toNat = 8 := rfl
  omega

/-- A top-up moves bits from the input to the accumulator and loses none. -/
theorem topUp_total {n : Nat} (hn : n ≤ 56) (input : List Byte) (acc : BitVec 39) (cnt : BitVec 6) :
    8 * (topUp n input acc cnt).input.length + (topUp n input acc cnt).cnt.toNat =
      8 * input.length + cnt.toNat := by
  induction input generalizing acc cnt with
  | nil => simp [topUp]
  | cons b rest ih =>
    simp only [topUp]
    split
    · rfl
    · rename_i h
      rw [ih, cnt_add_eight (by omega)]
      simp only [List.length_cons]
      omega

/-- A top-up succeeds exactly when the input can still supply the bits. -/
theorem topUp_enough {n : Nat} (hn : n ≤ 56) (input : List Byte) (acc : BitVec 39) (cnt : BitVec 6) :
    (topUp n input acc cnt).enough = decide (n ≤ 8 * input.length + cnt.toNat) := by
  induction input generalizing acc cnt with
  | nil => simp [topUp]
  | cons b rest ih =>
    simp only [topUp]
    split
    · rename_i h
      simp only [List.length_cons]
      exact (decide_eq_true (by omega)).symm
    · rename_i h
      rw [ih, cnt_add_eight (by omega)]
      simp only [List.length_cons]
      congr 1
      simp only [eq_iff_iff]
      omega

/-- After a top-up that succeeded, the bits asked for are buffered. -/
theorem topUp_cnt {n : Nat} (input : List Byte) (acc : BitVec 39) (cnt : BitVec 6)
    (h : (topUp n input acc cnt).enough = true) : n ≤ (topUp n input acc cnt).cnt.toNat := by
  induction input generalizing acc cnt with
  | nil => simpa [topUp] using h
  | cons b rest ih =>
    simp only [topUp] at h ⊢
    split
    · assumption
    · rename_i hn
      rw [if_neg hn] at h
      exact ih _ _ h

/-- The bytes a top-up leaves are the input's tail. -/
theorem topUp_suffix {n : Nat} (input : List Byte) (acc : BitVec 39) (cnt : BitVec 6) :
    (topUp n input acc cnt).input <:+ input := by
  induction input generalizing acc cnt with
  | nil => simp [topUp]
  | cons b rest ih =>
    simp only [topUp]
    split
    · exact List.suffix_refl _
    · exact (ih _ _).trans (List.suffix_cons _ _)

/-- A top-up with nothing to do changes nothing. -/
theorem topUp_of_le {n : Nat} (input : List Byte) (acc : BitVec 39) (cnt : BitVec 6) (h : n ≤ cnt.toNat) :
    topUp n input acc cnt = { enough := true, input := input, acc := acc, cnt := cnt } := by
  cases input <;> simp [topUp, h]

/-- A top-up for at most 32 bits never buffers more than 39, unless more were buffered before (R142). -/
theorem topUp_cnt_le {n : Nat} (hn : n ≤ 32) (input : List Byte) (acc : BitVec 39) (cnt : BitVec 6)
    (h : cnt.toNat ≤ 39) : (topUp n input acc cnt).cnt.toNat ≤ 39 := by
  induction input generalizing acc cnt with
  | nil => simpa [topUp] using h
  | cons b rest ih =>
    simp only [topUp]
    split
    · exact h
    · refine ih _ _ ?_
      rw [cnt_add_eight (by omega)]
      omega

@[simp] theorem setReader_bitsLeft {n : Nat} (hn : n ≤ 56) (s : State) :
    (s.setReader (topUp n s.input s.brAcc s.brCnt)).bitsLeft = s.bitsLeft :=
  topUp_total hn _ _ _

/-- Consuming buffered bits takes them from the bits left. -/
theorem consume_bitsLeft {n : Nat} {s : State} (h : n ≤ s.brCnt.toNat) : (s.consume n).bitsLeft + n = s.bitsLeft := by
  have hc : (s.brCnt - BitVec.ofNat 6 n).toNat = s.brCnt.toNat - n := by
    have := s.brCnt.isLt
    rw [BitVec.toNat_sub, BitVec.toNat_ofNat]
    omega
  simp only [State.bitsLeft, consume_input, consume_brCnt, hc]
  omega

/-- The state a read leaves before it consumes. -/
abbrev State.toppedUp (s : State) (n : Nat) : State := s.setReader (topUp n s.input s.brAcc s.brCnt)

/-- Everything `ReadBits` can do: with enough bits left it answers the low bits of the topped-up accumulator and,
unless it keeps them, consumes them; otherwise it raises UnexpectedEndOfInput with the fetched bytes buffered
(R142 to R144). -/
theorem readBits_cases {n : Nat} (hn : n ≤ 56) (keep : Bool) (s : State) :
    (n ≤ s.bitsLeft ∧ n ≤ (s.toppedUp n).brCnt.toNat ∧
      readBits n keep s =
        .ok ((s.toppedUp n).brAcc.toNat % 2 ^ n) (if keep then s.toppedUp n else (s.toppedUp n).consume n)) ∨
    (s.bitsLeft < n ∧ readBits n keep s = .err .unexpectedEndOfInput (s.toppedUp n)) := by
  by_cases h : n ≤ s.bitsLeft
  · have he : (topUp n s.input s.brAcc s.brCnt).enough = true := by
      rw [topUp_enough hn]; simpa [State.bitsLeft] using h
    exact .inl ⟨h, topUp_cnt _ _ _ he, by simp [readBits, he, State.toppedUp]⟩
  · have he : (topUp n s.input s.brAcc s.brCnt).enough = false := by
      rw [topUp_enough hn]; simpa [State.bitsLeft] using h
    exact .inr ⟨by omega, by simp [readBits, he, State.toppedUp]⟩

/-- A consuming read that answers takes its bits from the bits left. -/
theorem readBits_ok_bitsLeft {n : Nat} (hn : n ≤ 56) {s t : State} {v : Nat}
    (h : readBits n false s = .ok v t) : t.bitsLeft + n = s.bitsLeft := by
  rcases readBits_cases hn false s with ⟨-, hc, he⟩ | ⟨-, he⟩
  · rw [he] at h
    cases h
    rw [← setReader_bitsLeft hn s]
    exact consume_bitsLeft hc
  · rw [he] at h; cases h

/-- A read never gets stuck. -/
theorem readBits_ne_stuck (n : Nat) (keep : Bool) (s : State) : readBits n keep s ≠ .stuck := by
  simp only [readBits]
  split <;> simp

/-- A read of no bits answers 0 and changes nothing (R146). -/
theorem readBits_zero (keep : Bool) (s : State) : readBits 0 keep s = .ok 0 s := by
  have h : topUp 0 s.input s.brAcc s.brCnt = { enough := true, input := s.input, acc := s.brAcc, cnt := s.brCnt } :=
    topUp_of_le _ _ _ (Nat.zero_le _)
  simp only [readBits, h]
  cases keep <;> simp [State.setReader, State.consume, Nat.mod_one]

/-- The value a read answers fits in its bits. -/
theorem readBits_ok_lt {n : Nat} {keep : Bool} {s t : State} {v : Nat} (h : readBits n keep s = .ok v t) :
    v < 2 ^ n := by
  simp only [readBits] at h
  split at h
  · cases h
    exact Nat.mod_lt _ (Nat.two_pow_pos n)
  · cases h

end Sys2Proof.Machine
end

