-- ==== Sys2Proof/Laws/Blocks.lean ====
section
/-! SUPPORT. One induction for the whole block decoder: a property of states that every named update keeps holds of
the state a block ends in, whether it completes or raises.  Each invariant of DBLK and DSTR is then a list of small
goals, one per update. -/

namespace Sys2Proof.Machine

@[simp] theorem Holds_ok {α : Type} (P : State → Prop) (a : α) (s : State) : (Res.ok a s).Holds P ↔ P s := Iff.rfl

@[simp] theorem Holds_err {α : Type} (P : State → Prop) (e : Status) (s : State) :
    (Res.err e s : Res α).Holds P ↔ P s := Iff.rfl

@[simp] theorem Holds_stuck {α : Type} (P : State → Prop) : (Res.stuck : Res α).Holds P := trivial

/-- A sequence keeps a property that its first piece and, from there, its second piece keep. -/
theorem Holds_bind {α β : Type} {P : State → Prop} {r : Res α} {f : α → State → Res β}
    (hr : r.Holds P) (hf : ∀ a s, P s → (f a s).Holds P) : (r.bind f).Holds P := by
  cases r with
  | ok a s => exact hf a s hr
  | err e s => exact hr
  | stuck => trivial

/-- The updates a block-decoding command is made of, each keeping the property. -/
structure BlockClosed (P : State → Prop) : Prop where
  setPhase : ∀ s p, P s → P (s.setPhase p)
  setLoc : ∀ s l, P s → P (s.setLoc l)
  setBhdr : ∀ s lo n v, P s → P (s.setBhdr lo n v)
  topUp : ∀ s n, n ≤ 32 → P s → P (s.toppedUp n)
  consume : ∀ s n, n ≤ 32 → n ≤ s.brCnt.toNat → P s → P (s.consume n)
  setLen : ∀ s k i v, P s → P (s.setLen k i v)
  clearLens : ∀ s k, P s → P (s.clearLens k)
  buildCodes : ∀ s k, P s → P (s.buildCodes k)
  buildTree : ∀ s k, P s → P (s.setTree k (Tree.build (Config.nodecap k) (s.codes k) 0 Tree.empty).2)
  resetCursor : ∀ s k, P s → P (s.setTree k (s.tree k).resetCursor)
  advance : ∀ s k b, P s → P (s.setTree k ((s.tree k).advance b).2)
  append : ∀ s b, P s → P (s.append b)
  blockDone : ∀ s, P s → P s.blockDone

variable {P : State → Prop}

theorem readBits_holds (H : BlockClosed P) {n : Nat} (hn : n ≤ 32) {s : State} (h : P s) :
    (readBits n false s).Holds P := by
  rcases readBits_cases (by omega : n ≤ 56) false s with ⟨-, hc, he⟩ | ⟨-, he⟩
  · rw [he]; exact H.consume _ n hn hc (H.topUp s n hn h)
  · rw [he]; exact H.topUp s n hn h

theorem decodeBits_holds (H : BlockClosed P) (k : Sel) (fuel : Nat) {s : State} (h : P s) :
    (decodeBits k fuel s).Holds P := by
  induction fuel generalizing s with
  | zero => trivial
  | succ fuel ih =>
    refine Holds_bind (readBits_holds H (by omega) h) fun b s1 h1 => ?_
    have ha := H.advance s1 k (b == 1) h1
    rcases hadv : (s1.tree k).advance (b == 1) with ⟨r, t⟩
    rw [hadv] at ha
    cases r with
    | symbol sym => exact ha
    | pending => exact ih ha
    | invalid => exact ha

theorem decodeSymbol_holds (H : BlockClosed P) (k : Sel) {s : State} (h : P s) : (decodeSymbol k s).Holds P :=
  decodeBits_holds H k _ (H.resetCursor s k h)

theorem buildTree_holds (H : BlockClosed P) (k : Sel) {s : State} (h : P s) : (buildTree k s).Holds P := by
  have hb := H.buildTree s k h
  rcases ht : Tree.build (Config.nodecap k) (s.codes k) 0 Tree.empty with ⟨e, t⟩
  rw [ht] at hb
  cases e <;> (simp only [buildTree, ht]; exact hb)

theorem putLength_holds (H : BlockClosed P) (v : BitVec 4) {s : State} (h : P s) : P (putLength v s) := by
  simp only [putLength]
  split <;> exact H.setLoc _ _ (H.setLen _ _ _ _ h)

theorem putLengths_holds (H : BlockClosed P) (v : BitVec 4) (n : Nat) {s : State} (h : P s) :
    P (putLengths v n s) := by
  induction n generalizing s with
  | zero => exact h
  | succ n ih => exact ih (putLength_holds H v h)

theorem repeatLast_holds (H : BlockClosed P) (n : Nat) {s : State} (h : P s) : (repeatLast n s).Holds P := by
  simp only [repeatLast]
  split
  · exact h
  · exact putLengths_holds H _ _ h

theorem repeatPrevious_holds (H : BlockClosed P) {s : State} (h : P s) : (repeatPrevious s).Holds P :=
  Holds_bind (readBits_holds H (by omega) h) fun _ _ h1 => repeatLast_holds H _ h1

theorem repeatZero_holds (H : BlockClosed P) {e : Nat} (he : e ≤ 32) (base : Nat) {s : State} (h : P s) :
    (repeatZero e base s).Holds P :=
  Holds_bind (readBits_holds H he h) fun _ _ h1 => repeatLast_holds H _ (H.setLoc _ _ h1)

theorem lengthValue_holds (H : BlockClosed P) (v : BitVec 4) {s : State} (h : P s) : (lengthValue v s).Holds P :=
  H.setLoc _ _ (putLength_holds H v h)

theorem clSymbol_holds (H : BlockClosed P) (v : Nat) {s : State} (h : P s) : (clSymbol v s).Holds P := by
  simp only [clSymbol]
  split
  · exact lengthValue_holds H _ h
  · split
    · exact repeatPrevious_holds H h
    · split
      · exact repeatZero_holds H (by omega) _ h
      · split
        · exact repeatZero_holds H (by omega) _ h
        · exact h

theorem copyBytes_holds (H : BlockClosed P) (dist n : Nat) {s : State} (h : P s) : P (copyBytes dist n s) := by
  induction n generalizing s with
  | zero => exact h
  | succ n ih => exact ih (H.append _ _ h)

theorem lengthCode_holds (H : BlockClosed P) {e : Nat} (he : e ≤ 32) (base : Nat) {s : State} (h : P s) :
    (lengthCode e base s).Holds P :=
  Holds_bind (readBits_holds H he h) fun _ _ h1 => H.setLoc _ _ h1

theorem distanceCode_holds (H : BlockClosed P) {e : Nat} (he : e ≤ 32) (base : Nat) {s : State} (h : P s) :
    (distanceCode e base s).Holds P := by
  refine Holds_bind (readBits_holds H he h) fun x s1 h1 => ?_
  split
  · exact h1
  · exact copyBytes_holds H _ _ h1

/-- No row of the two tables asks for more than 13 extra bits. -/
theorem lengthTable_extra {i e base : Nat} (h : lengthTable[i]? = some (e, base)) : e ≤ 13 :=
  (by decide : ∀ p ∈ lengthTable, p.1 ≤ 13) _ (List.mem_of_getElem? h)

theorem distanceTable_extra {i e base : Nat} (h : distanceTable[i]? = some (e, base)) : e ≤ 13 :=
  (by decide : ∀ p ∈ distanceTable, p.1 ≤ 13) _ (List.mem_of_getElem? h)

theorem llSymbol_holds (H : BlockClosed P) (v : Nat) {s : State} (h : P s) : (llSymbol v s).Holds P := by
  simp only [llSymbol]
  split
  · exact H.append _ _ h
  · split
    · exact H.blockDone _ h
    · split
      · rename_i he
        exact lengthCode_holds H (Nat.le_trans (lengthTable_extra he) (by omega)) _ h
      · exact h

theorem distSymbol_holds (H : BlockClosed P) (v : Nat) {s : State} (h : P s) : (distSymbol v s).Holds P := by
  simp only [distSymbol]
  split
  · rename_i he
    exact distanceCode_holds H (Nat.le_trans (distanceTable_extra he) (by omega)) _ h
  · exact h

theorem readCounts_holds (H : BlockClosed P) {s : State} (h : P s) : (readCounts s).Holds P := by
  refine Holds_bind (readBits_holds H (by omega) (H.setPhase _ _ h)) fun a s1 h1 => ?_
  refine Holds_bind (readBits_holds H (by omega) (H.setBhdr _ _ _ _ h1)) fun b s2 h2 => ?_
  refine Holds_bind (readBits_holds H (by omega) (H.setBhdr _ _ _ _ h2)) fun c s3 h3 => ?_
  exact H.setLoc _ _ (H.setBhdr _ _ _ _ h3)

theorem blockType_holds (H : BlockClosed P) (v : Nat) {s : State} (h : P s) : (blockType v s).Holds P := by
  simp only [blockType]
  split
  · exact readCounts_holds H h
  · exact h

theorem readHeader_holds (H : BlockClosed P) {s : State} (h : P s) : (readHeader s).Holds P := by
  refine Holds_bind (readBits_holds H (by omega) (H.setPhase _ _ (H.setLoc _ _ h))) fun a s1 h1 => ?_
  refine Holds_bind (readBits_holds H (by omega) (H.setBhdr _ _ _ _ h1)) fun b s2 h2 => ?_
  exact H.setBhdr _ _ _ _ h2

theorem readClLengths_holds (H : BlockClosed P) (syms : List Nat) {s : State} (h : P s) :
    (readClLengths syms s).Holds P := by
  induction syms generalizing s with
  | nil => exact h
  | cons sym rest ih =>
    exact Holds_bind (readBits_holds H (by omega) h) fun _ _ h1 => ih (H.setLen _ _ _ _ h1)

theorem lengthLoop_holds (H : BlockClosed P) (fuel : Nat) {s : State} (h : P s) : (lengthLoop fuel s).Holds P := by
  induction fuel generalizing s with
  | zero => trivial
  | succ fuel ih =>
    simp only [lengthLoop]
    split
    · refine Holds_bind (decodeSymbol_holds H .cl h) fun sym s1 h1 => ?_
      exact Holds_bind (clSymbol_holds H _ h1) fun _ _ h2 => ih h2
    · exact h

theorem dataLoop_holds (H : BlockClosed P) (fuel : Nat) {s : State} (h : P s) : (dataLoop fuel s).Holds P := by
  induction fuel generalizing s with
  | zero => trivial
  | succ fuel ih =>
    refine Holds_bind (decodeSymbol_holds H .ll h) fun sym s1 h1 => ?_
    refine Holds_bind (llSymbol_holds H _ h1) fun _ s2 h2 => ?_
    split
    · exact h2
    · split
      · exact ih h2
      · refine Holds_bind (decodeSymbol_holds H .dist h2) fun d s3 h3 => ?_
        exact Holds_bind (distSymbol_holds H _ h3) fun _ _ h4 => ih h4

/-- Whatever every update keeps, a block keeps. -/
theorem decodeBlock_holds (H : BlockClosed P) {s : State} (h : P s) : (decodeBlock s).Holds P := by
  refine Holds_bind (readHeader_holds H h) fun bt s1 h1 => ?_
  refine Holds_bind (blockType_holds H _ h1) fun _ s2 h2 => ?_
  refine Holds_bind (readClLengths_holds H _ (H.clearLens _ _ h2)) fun _ s3 h3 => ?_
  refine Holds_bind (buildTree_holds H _ (H.buildCodes _ _ (H.setPhase _ _ h3))) fun _ s4 h4 => ?_
  refine Holds_bind
    (lengthLoop_holds H _ (H.setLoc _ _ (H.clearLens _ _ (H.clearLens _ _ (H.setPhase _ _ h4))))) fun _ s5 h5 => ?_
  refine Holds_bind
    (Holds_bind (buildTree_holds H _ (H.buildCodes _ _ (H.setPhase _ _ h5))) fun _ s6 h6 =>
      buildTree_holds H _ (H.buildCodes _ _ h6)) fun _ s7 h7 => ?_
  exact dataLoop_holds H _ (H.setPhase _ _ h7)

/-- Whatever every update keeps, a stream keeps. -/
theorem streamLoop_holds (H : BlockClosed P) (fuel : Nat) {s : State} (h : P s) : (streamLoop fuel s).Holds P := by
  induction fuel generalizing s with
  | zero => trivial
  | succ fuel ih =>
    simp only [streamLoop]
    split
    · exact Holds_bind (decodeBlock_holds H h) fun _ _ h1 => ih h1
    · exact h
    · exact h

end Sys2Proof.Machine
end

