-- ==== Sys2Proof/Laws/Canonical.lean ====
section
/-! SUPPORT. Code-length arrays and canonical codes: what a write, a clear and a build leave at each index. -/

namespace Sys2Proof.Machine

/-! ### Arrays -/

theorem lens_length (s : State) (k : Sel) : (s.lens k).length = Config.asize k := by
  cases k <;> simp [State.lens, Config.asize]

theorem codes_length (s : State) (k : Sel) : (s.codes k).length = Config.asize k := by
  cases k <;> simp [State.codes, Config.asize]

/-- The lengths of an alphabet, entry by entry. -/
theorem lens_getD (s : State) (k : Sel) (i : Nat) : (s.lens k).getD i 0 = (s.lenAt k i).toNat := by
  cases k
  · simp only [State.lens, State.lenAt, List.getD_eq_getElem?_getD, List.getElem?_map, Vector.getElem?_toList]
    cases h : s.lenCL[i]? with
    | none => simp
    | some x =>
      have := x.isLt
      simp only [Option.map_some, Option.getD_some, BitVec.toNat_setWidth]
      omega
  · simp only [State.lens, State.lenAt, List.getD_eq_getElem?_getD, List.getElem?_map, Vector.getElem?_toList]
    cases h : s.lenLL[i]? <;> simp
  · simp only [State.lens, State.lenAt, List.getD_eq_getElem?_getD, List.getElem?_map, Vector.getElem?_toList]
    cases h : s.lenDIST[i]? <;> simp

/-- The code table of an alphabet, entry by entry. -/
theorem codes_getD (s : State) (k : Sel) (i : Nat) :
    (s.codes k).getD i { clen := 0, cval := 0 } = s.codeAt k i := by
  cases k <;>
    simp [State.codes, State.codeAt, List.getD_eq_getElem?_getD]

/-- A length just written reads back, when it fits the alphabet and the index is legal (R161, R162). -/
theorem lenAt_setLen_same (s : State) (k : Sel) (i : Nat) (v : BitVec 4) (hi : i < Config.asize k)
    (hv : v.toNat ≤ Config.lmax k) : (s.setLen k i v).lenAt k i = v := by
  cases k
  · simp only [Config.asize, Config.lmax] at hi hv
    simp only [State.setLen, State.lenAt, Vector.getElem?_setIfInBounds_self_of_lt hi, Option.getD_some]
    apply BitVec.eq_of_toNat_eq
    simp only [BitVec.toNat_setWidth]
    omega
  · simp only [Config.asize] at hi
    simp [State.setLen, State.lenAt, hi]
  · simp only [Config.asize] at hi
    simp [State.setLen, State.lenAt, hi]

/-- A length written leaves every other length alone. -/
theorem lenAt_setLen_other (s : State) (k j : Sel) (i m : Nat) (v : BitVec 4) (h : j ≠ k ∨ m ≠ i) :
    (s.setLen k i v).lenAt j m = s.lenAt j m := by
  rcases h with h | h
  · cases k <;> cases j <;> first | rfl | exact absurd rfl h
  · have h' : i ≠ m := fun e => h e.symm
    cases k <;> cases j <;> first
      | rfl
      | simp [State.setLen, State.lenAt, h']

/-! ### Canonical codes -/

theorem firstCodes_getD (lens : List Nat) (n l m : Nat) (hm : m < n) :
    (firstCodes lens n (l + 1) (firstCode lens l)).getD m 0 = firstCode lens (l + 1 + m) := by
  induction n generalizing l m with
  | zero => omega
  | succ n ih =>
    have hhere : (firstCode lens l + lenCount lens (l + 1 - 1)) * 2 = firstCode lens (l + 1) := by
      simp [firstCode, lenCount]
    simp only [firstCodes, hhere]
    cases m with
    | zero => simp
    | succ m =>
      have := ih (l + 1) m (by omega)
      simp only [List.getD_cons_succ, this]
      congr 1
      omega

/-- The table of first codes is the recursion of R165, at each of the lengths 0 to 15. -/
theorem nextCodes_getD (lens : List Nat) (l : Nat) (h : l ≤ 15) : (nextCodes lens).getD l 0 = firstCode lens l := by
  cases l with
  | zero => rfl
  | succ l =>
    have := firstCodes_getD lens 15 0 l (by omega)
    simp only [nextCodes, List.getD_cons_succ]
    rw [show firstCode lens 0 = 0 from rfl] at this
    simp only [this]
    congr 1
    omega

theorem firstCodes_length (lens : List Nat) (n l prev : Nat) : (firstCodes lens n l prev).length = n := by
  induction n generalizing l prev with
  | zero => rfl
  | succ n ih => simp [firstCodes, ih]

theorem nextCodes_length (lens : List Nat) : (nextCodes lens).length = 16 := by
  simp [nextCodes, firstCodes_length]

/-- What `assignCodes` gives to the symbol at an index. -/
theorem assignCodes_getElem? (next lens : List Nat) (i : Nat) (hi : i < lens.length)
    (hl : ∀ l ∈ lens, l < next.length) :
    (assignCodes next lens)[i]? =
      some (if lens.getD i 0 = 0 then { clen := 0, cval := 0 }
        else { clen := BitVec.ofNat 4 (lens.getD i 0),
               cval := BitVec.ofNat 24 (next.getD (lens.getD i 0) 0 + (lens.take i).count (lens.getD i 0)) }) := by
  induction lens generalizing next i with
  | nil => simp at hi
  | cons l rest ih =>
    have hlt : l < next.length := hl l (by simp)
    have hrest : ∀ m ∈ rest, m < next.length := fun m hm => hl m (by simp [hm])
    cases i with
    | zero => by_cases h0 : l = 0 <;> simp [assignCodes, h0]
    | succ i =>
      have hi' : i < rest.length := by simpa using hi
      by_cases h0 : l = 0
      · have := ih next i hi' hrest
        simp only [assignCodes, h0, if_true, List.getElem?_cons_succ, this, List.getD_cons_succ]
        by_cases hz : rest.getD i 0 = 0
        · rw [if_pos hz, if_pos hz]
        · rw [if_neg hz, if_neg hz, List.take_succ_cons, List.count_cons_of_ne (fun e => hz e.symm)]
      · have := ih (next.set l (next.getD l 0 + 1)) i hi' (by simpa using hrest)
        simp only [assignCodes, if_neg h0, List.getElem?_cons_succ, this, List.getD_cons_succ]
        by_cases hz : rest.getD i 0 = 0
        · rw [if_pos hz, if_pos hz]
        · rw [if_neg hz, if_neg hz, List.take_succ_cons]
          by_cases he : l = rest.getD i 0
          · subst he
            rw [List.count_cons_self]
            have : (next.set (rest.getD i 0) (next.getD (rest.getD i 0) 0 + 1)).getD (rest.getD i 0) 0 =
                next.getD (rest.getD i 0) 0 + 1 := by
              rw [List.getD_eq_getElem?_getD, List.getElem?_set_self hlt]
              rfl
            rw [this]
            congr 3
            omega
          · rw [List.count_cons_of_ne he]
            have : (next.set l (next.getD l 0 + 1)).getD (rest.getD i 0) 0 = next.getD (rest.getD i 0) 0 := by
              rw [List.getD_eq_getElem?_getD, List.getElem?_set_ne he, ← List.getD_eq_getElem?_getD]
            rw [this]

/-- The canonical code of the symbol at an index (R165). -/
theorem canonicalCodes_getElem? (lens : List Nat) (i : Nat) (hi : i < lens.length) (hl : ∀ l ∈ lens, l ≤ 15) :
    (canonicalCodes lens)[i]? =
      some (if lens.getD i 0 = 0 then { clen := 0, cval := 0 }
        else { clen := BitVec.ofNat 4 (lens.getD i 0), cval := BitVec.ofNat 24 (codeValue lens i) }) := by
  rw [canonicalCodes, assignCodes_getElem? _ _ _ hi]
  · have hb : lens.getD i 0 ≤ 15 := by
      rw [List.getD_eq_getElem?_getD, List.getElem?_eq_getElem hi]
      exact hl _ (List.getElem_mem hi)
    rw [nextCodes_getD _ _ hb]
    rfl
  · intro l h
    rw [nextCodes_length]
    have := hl l h
    omega

/-- Every length of an alphabet is at most 15 (R8). -/
theorem lens_le (s : State) (k : Sel) : ∀ l ∈ s.lens k, l ≤ 15 := by
  intro l hl
  cases k <;>
    · simp only [State.lens, List.mem_map] at hl
      obtain ⟨x, -, rfl⟩ := hl
      have := x.isLt
      omega

/-- BuildCodes gives CODE[sel] the canonical codes of LEN[sel] (R165). -/
theorem buildCodes_codes (s : State) (k : Sel) : (s.buildCodes k).codes k = canonicalCodes (s.lens k) := by
  cases k <;> simp [State.buildCodes, State.codes, toVector]

/-- BuildCodes leaves the other code tables alone. -/
theorem buildCodes_codes_other (s : State) (k j : Sel) (h : j ≠ k) : (s.buildCodes k).codes j = s.codes j := by
  cases k <;> cases j <;> first | rfl | exact absurd rfl h

end Sys2Proof.Machine
end

