-- ==== Sys2Proof/Laws/Memory.lean ====
section
/-! SUPPORT. The history window's memory: a read after a write, and the canonical form under a write. -/

namespace Sys2Proof.Machine

theorem lookup_write_same (m : Memory) (i : Nat) (v : Byte) : Memory.lookup (Memory.write m i v) i = some v := by
  induction m with
  | nil => simp [Memory.write, Memory.lookup]
  | cons c rest ih =>
    obtain ⟨a, b⟩ := c
    simp only [Memory.write]
    split
    · simp [Memory.lookup]
    · split
      · simp [Memory.lookup]
      · rename_i h1 h2
        simp [Memory.lookup, h2, ih]

theorem lookup_write_other (m : Memory) (i j : Nat) (v : Byte) (h : j ≠ i) :
    Memory.lookup (Memory.write m i v) j = Memory.lookup m j := by
  induction m with
  | nil => simp [Memory.write, Memory.lookup, h]
  | cons c rest ih =>
    obtain ⟨a, b⟩ := c
    simp only [Memory.write]
    split
    · simp [Memory.lookup, h]
    · split
      · rename_i h1 h2
        subst h2
        simp [Memory.lookup, h]
      · simp [Memory.lookup, ih]

/-- A read of the index just written gives the byte written. -/
@[simp] theorem read_write_same (m : Memory) (i : Nat) (v : Byte) : Memory.read (Memory.write m i v) i = v := by
  simp [Memory.read, lookup_write_same]

/-- A write leaves every other index alone. -/
theorem read_write_other (m : Memory) (i j : Nat) (v : Byte) (h : j ≠ i) :
    Memory.read (Memory.write m i v) j = Memory.read m j := by
  simp [Memory.read, lookup_write_other m i j v h]

/-- The indices a write leaves listed are those listed before and the one written. -/
theorem mem_write_index {m : Memory} {i : Nat} {v : Byte} {c : Host.Cell} (h : c ∈ Memory.write m i v) :
    c.1 = i ∨ c ∈ m := by
  induction m with
  | nil => simp [Memory.write] at h; exact .inl (by rw [h])
  | cons d rest ih =>
    obtain ⟨a, b⟩ := d
    simp only [Memory.write] at h
    split at h
    · simp only [List.mem_cons] at h ⊢
      rcases h with h | h
      · exact .inl (by rw [h])
      · exact .inr h
    · split at h
      · simp only [List.mem_cons] at h ⊢
        rcases h with h | h
        · exact .inl (by rw [h])
        · exact .inr (.inr h)
      · simp only [List.mem_cons] at h ⊢
        rcases h with h | h
        · exact .inr (.inl h)
        · exact (ih h).imp id .inr

/-- A write inside the window keeps the canonical form. -/
theorem write_wf {m : Memory} {i : Nat} (v : Byte) (h : Memory.wf m) (hi : i < Config.wsize) :
    Memory.wf (Memory.write m i v) := by
  refine ⟨?_, fun c hc => (mem_write_index hc).elim (fun h => h ▸ hi) (h.2 c)⟩
  have hp := h.1
  clear h
  induction m with
  | nil => simp [Memory.write]
  | cons d rest ih =>
    obtain ⟨a, b⟩ := d
    obtain ⟨ha, hr⟩ := List.pairwise_cons.mp hp
    simp only [Memory.write]
    split
    · rename_i hlt
      refine List.pairwise_cons.mpr ⟨?_, hp⟩
      intro c hc
      rcases List.mem_cons.mp hc with rfl | hc
      · exact hlt
      · exact Nat.lt_trans hlt (ha c hc)
    · split
      · rename_i heq
        subst heq
        exact List.pairwise_cons.mpr ⟨ha, hr⟩
      · rename_i h1 h2
        refine List.pairwise_cons.mpr ⟨?_, ih hr⟩
        intro c hc
        rcases mem_write_index hc with rfl | hc
        · exact Nat.lt_of_le_of_ne (Nat.le_of_not_lt h1) (Ne.symm h2)
        · exact ha c hc

/-- The window's write pointer is always an index of the window. -/
theorem wptr_lt_wsize (s : State) : s.wptr.toNat < Config.wsize := by
  have := s.wptr.isLt
  simpa [Config.wsize] using this

/-- Appending a byte keeps the window's canonical form. -/
theorem append_wf {s : State} (b : Byte) (h : Memory.wf s.win) : Memory.wf (s.append b).win :=
  write_wf b h (wptr_lt_wsize s)

theorem fillNext_toNat (w : BitVec 17) : (fillNext w).toNat = min (w.toNat + 1) 32768 := by
  have : min (w.toNat + 1) 32768 < 2 ^ 17 := by omega
  simp only [fillNext, Config.wsize, BitVec.toNat_ofNat]
  omega

/-- The copy of a back-reference keeps the window's canonical form. -/
theorem copyBytes_wf {dist n : Nat} {s : State} (h : Memory.wf s.win) : Memory.wf (copyBytes dist n s).win := by
  induction n generalizing s with
  | zero => exact h
  | succ n ih => exact ih (append_wf _ h)

end Sys2Proof.Machine
end

