-- ==== Sys2Proof/Laws/PerInstr.lean ====
section
/-! SUPPORT. Every instruction's code has the form of its own row of the opcode table: a command word carries its
row's match bits under its row's mask (R101), a stream value lies in its alphabet (R124). -/

namespace Sys2Proof.Laws.RowLaw

open Sys2Proof.Machine

/-- The code of an instruction has the form of its row in the opcode table (R101, R124). -/
def Statement (i : Instr) : Prop :=
  match encode i with
  | .command w => ∃ r ∈ opcodeMap, w &&& r.2 = r.1
  | .symbol kind value => value.toNat < streamSize kind

theorem of_symbol {i : Instr} {kind : StreamKind} {value : BitVec 9} (h : encode i = .symbol kind value)
    (hv : value.toNat < streamSize kind) : Statement i := by
  simpa only [Statement, h] using hv

theorem nop : Statement .nop := ⟨opcodeMap[0], by decide, by decide⟩

theorem srst : Statement .srst := ⟨opcodeMap[1], by decide, by decide⟩

theorem brd (keep : Bool) (n : BitVec 6) : Statement (.brd keep n) := by
  refine ⟨opcodeMap[2], by decide, ?_⟩
  simp only [opcodeMap, List.getElem_cons_succ, List.getElem_cons_zero]
  ext i hi
  simp only [BitVec.getElem_and, BitVec.getElem_append]
  interval_cases i <;> simp

theorem lwr (sel : BitVec 2) (idx : BitVec 9) (val : BitVec 4) : Statement (.lwr sel idx val) := by
  refine ⟨opcodeMap[3], by decide, ?_⟩
  simp only [opcodeMap, List.getElem_cons_succ, List.getElem_cons_zero]
  ext i hi
  simp only [BitVec.getElem_and, BitVec.getElem_append]
  interval_cases i <;> simp

theorem lrd (sel : BitVec 2) (idx : BitVec 9) : Statement (.lrd sel idx) := by
  refine ⟨opcodeMap[4], by decide, ?_⟩
  simp only [opcodeMap, List.getElem_cons_succ, List.getElem_cons_zero]
  ext i hi
  simp only [BitVec.getElem_and, BitVec.getElem_append]
  interval_cases i <;> simp

theorem cbld (sel : BitVec 2) : Statement (.cbld sel) := by
  refine ⟨opcodeMap[5], by decide, ?_⟩
  simp only [opcodeMap, List.getElem_cons_succ, List.getElem_cons_zero]
  ext i hi
  simp only [BitVec.getElem_and, BitVec.getElem_append]
  interval_cases i <;> simp

theorem crd (sel : BitVec 2) (idx : BitVec 9) : Statement (.crd sel idx) := by
  refine ⟨opcodeMap[6], by decide, ?_⟩
  simp only [opcodeMap, List.getElem_cons_succ, List.getElem_cons_zero]
  ext i hi
  simp only [BitVec.getElem_and, BitVec.getElem_append]
  interval_cases i <;> simp

theorem tclr (sel : BitVec 2) : Statement (.tclr sel) := by
  refine ⟨opcodeMap[7], by decide, ?_⟩
  simp only [opcodeMap, List.getElem_cons_succ, List.getElem_cons_zero]
  ext i hi
  simp only [BitVec.getElem_and, BitVec.getElem_append]
  interval_cases i <;> simp

theorem tins (sel : BitVec 2) (sym : BitVec 9) (mk : BitVec 16) : Statement (.tins sel sym mk) := by
  refine ⟨opcodeMap[8], by decide, ?_⟩
  simp only [opcodeMap, List.getElem_cons_succ, List.getElem_cons_zero]
  ext i hi
  simp only [BitVec.getElem_and, BitVec.getElem_append]
  interval_cases i <;> simp

theorem tbld (sel : BitVec 2) : Statement (.tbld sel) := by
  refine ⟨opcodeMap[9], by decide, ?_⟩
  simp only [opcodeMap, List.getElem_cons_succ, List.getElem_cons_zero]
  ext i hi
  simp only [BitVec.getElem_and, BitVec.getElem_append]
  interval_cases i <;> simp

theorem trst (sel : BitVec 2) : Statement (.trst sel) := by
  refine ⟨opcodeMap[10], by decide, ?_⟩
  simp only [opcodeMap, List.getElem_cons_succ, List.getElem_cons_zero]
  ext i hi
  simp only [BitVec.getElem_and, BitVec.getElem_append]
  interval_cases i <;> simp

theorem tadv (sel : BitVec 2) (bit : Bool) : Statement (.tadv sel bit) := by
  refine ⟨opcodeMap[11], by decide, ?_⟩
  simp only [opcodeMap, List.getElem_cons_succ, List.getElem_cons_zero]
  ext i hi
  simp only [BitVec.getElem_and, BitVec.getElem_append]
  interval_cases i <;> simp

theorem dblk : Statement .dblk := ⟨opcodeMap[12], by decide, by decide⟩

theorem dstr : Statement .dstr := ⟨opcodeMap[13], by decide, by decide⟩

theorem rrd (rn : BitVec 8) : Statement (.rrd rn) := by
  refine ⟨opcodeMap[14], by decide, ?_⟩
  simp only [opcodeMap, List.getElem_cons_succ, List.getElem_cons_zero]
  ext i hi
  simp only [BitVec.getElem_and, BitVec.getElem_append]
  interval_cases i <;> simp

theorem reservedOp (low : BitVec 28) : Statement (.reservedOp low) := by
  refine ⟨opcodeMap[15], by decide, ?_⟩
  simp only [opcodeMap, List.getElem_cons_succ, List.getElem_cons_zero]
  ext i hi
  simp only [BitVec.getElem_and, BitVec.getElem_append]
  interval_cases i <;> simp

theorem blockStored : Statement .blockStored := of_symbol rfl (by decide)

theorem blockFixed : Statement .blockFixed := of_symbol rfl (by decide)

theorem blockDynamic : Statement .blockDynamic := of_symbol rfl (by decide)

theorem blockReserved : Statement .blockReserved := of_symbol rfl (by decide)

theorem clLen0 : Statement .clLen0 := of_symbol rfl (by decide)

theorem clLen1 : Statement .clLen1 := of_symbol rfl (by decide)

theorem clLen2 : Statement .clLen2 := of_symbol rfl (by decide)

theorem clLen3 : Statement .clLen3 := of_symbol rfl (by decide)

theorem clLen4 : Statement .clLen4 := of_symbol rfl (by decide)

theorem clLen5 : Statement .clLen5 := of_symbol rfl (by decide)

theorem clLen6 : Statement .clLen6 := of_symbol rfl (by decide)

theorem clLen7 : Statement .clLen7 := of_symbol rfl (by decide)

theorem clLen8 : Statement .clLen8 := of_symbol rfl (by decide)

theorem clLen9 : Statement .clLen9 := of_symbol rfl (by decide)

theorem clLen10 : Statement .clLen10 := of_symbol rfl (by decide)

theorem clLen11 : Statement .clLen11 := of_symbol rfl (by decide)

theorem clLen12 : Statement .clLen12 := of_symbol rfl (by decide)

theorem clLen13 : Statement .clLen13 := of_symbol rfl (by decide)

theorem clLen14 : Statement .clLen14 := of_symbol rfl (by decide)

theorem clLen15 : Statement .clLen15 := of_symbol rfl (by decide)

theorem clRep16 : Statement .clRep16 := of_symbol rfl (by decide)

theorem clRep17 : Statement .clRep17 := of_symbol rfl (by decide)

theorem clRep18 : Statement .clRep18 := of_symbol rfl (by decide)

theorem llLit0 : Statement .llLit0 := of_symbol rfl (by decide)

theorem llLit1 : Statement .llLit1 := of_symbol rfl (by decide)

theorem llLit2 : Statement .llLit2 := of_symbol rfl (by decide)

theorem llLit3 : Statement .llLit3 := of_symbol rfl (by decide)

theorem llLit4 : Statement .llLit4 := of_symbol rfl (by decide)

theorem llLit5 : Statement .llLit5 := of_symbol rfl (by decide)

theorem llLit6 : Statement .llLit6 := of_symbol rfl (by decide)

theorem llLit7 : Statement .llLit7 := of_symbol rfl (by decide)

theorem llLit8 : Statement .llLit8 := of_symbol rfl (by decide)

theorem llLit9 : Statement .llLit9 := of_symbol rfl (by decide)

theorem llLit10 : Statement .llLit10 := of_symbol rfl (by decide)

theorem llLit11 : Statement .llLit11 := of_symbol rfl (by decide)

theorem llLit12 : Statement .llLit12 := of_symbol rfl (by decide)

theorem llLit13 : Statement .llLit13 := of_symbol rfl (by decide)

theorem llLit14 : Statement .llLit14 := of_symbol rfl (by decide)

theorem llLit15 : Statement .llLit15 := of_symbol rfl (by decide)

theorem llLit16 : Statement .llLit16 := of_symbol rfl (by decide)

theorem llLit17 : Statement .llLit17 := of_symbol rfl (by decide)

theorem llLit18 : Statement .llLit18 := of_symbol rfl (by decide)

theorem llLit19 : Statement .llLit19 := of_symbol rfl (by decide)

theorem llLit20 : Statement .llLit20 := of_symbol rfl (by decide)

theorem llLit21 : Statement .llLit21 := of_symbol rfl (by decide)

theorem llLit22 : Statement .llLit22 := of_symbol rfl (by decide)

theorem llLit23 : Statement .llLit23 := of_symbol rfl (by decide)

theorem llLit24 : Statement .llLit24 := of_symbol rfl (by decide)

theorem llLit25 : Statement .llLit25 := of_symbol rfl (by decide)

theorem llLit26 : Statement .llLit26 := of_symbol rfl (by decide)

theorem llLit27 : Statement .llLit27 := of_symbol rfl (by decide)

theorem llLit28 : Statement .llLit28 := of_symbol rfl (by decide)

theorem llLit29 : Statement .llLit29 := of_symbol rfl (by decide)

theorem llLit30 : Statement .llLit30 := of_symbol rfl (by decide)

theorem llLit31 : Statement .llLit31 := of_symbol rfl (by decide)

theorem llLit32 : Statement .llLit32 := of_symbol rfl (by decide)

theorem llLit33 : Statement .llLit33 := of_symbol rfl (by decide)

theorem llLit34 : Statement .llLit34 := of_symbol rfl (by decide)

theorem llLit35 : Statement .llLit35 := of_symbol rfl (by decide)

theorem llLit36 : Statement .llLit36 := of_symbol rfl (by decide)

theorem llLit37 : Statement .llLit37 := of_symbol rfl (by decide)

theorem llLit38 : Statement .llLit38 := of_symbol rfl (by decide)

theorem llLit39 : Statement .llLit39 := of_symbol rfl (by decide)

theorem llLit40 : Statement .llLit40 := of_symbol rfl (by decide)

theorem llLit41 : Statement .llLit41 := of_symbol rfl (by decide)

theorem llLit42 : Statement .llLit42 := of_symbol rfl (by decide)

theorem llLit43 : Statement .llLit43 := of_symbol rfl (by decide)

theorem llLit44 : Statement .llLit44 := of_symbol rfl (by decide)

theorem llLit45 : Statement .llLit45 := of_symbol rfl (by decide)

theorem llLit46 : Statement .llLit46 := of_symbol rfl (by decide)

theorem llLit47 : Statement .llLit47 := of_symbol rfl (by decide)

theorem llLit48 : Statement .llLit48 := of_symbol rfl (by decide)

theorem llLit49 : Statement .llLit49 := of_symbol rfl (by decide)

theorem llLit50 : Statement .llLit50 := of_symbol rfl (by decide)

theorem llLit51 : Statement .llLit51 := of_symbol rfl (by decide)

theorem llLit52 : Statement .llLit52 := of_symbol rfl (by decide)

theorem llLit53 : Statement .llLit53 := of_symbol rfl (by decide)

theorem llLit54 : Statement .llLit54 := of_symbol rfl (by decide)

theorem llLit55 : Statement .llLit55 := of_symbol rfl (by decide)

theorem llLit56 : Statement .llLit56 := of_symbol rfl (by decide)

theorem llLit57 : Statement .llLit57 := of_symbol rfl (by decide)

theorem llLit58 : Statement .llLit58 := of_symbol rfl (by decide)

theorem llLit59 : Statement .llLit59 := of_symbol rfl (by decide)

theorem llLit60 : Statement .llLit60 := of_symbol rfl (by decide)

theorem llLit61 : Statement .llLit61 := of_symbol rfl (by decide)

theorem llLit62 : Statement .llLit62 := of_symbol rfl (by decide)

theorem llLit63 : Statement .llLit63 := of_symbol rfl (by decide)

theorem llLit64 : Statement .llLit64 := of_symbol rfl (by decide)

theorem llLit65 : Statement .llLit65 := of_symbol rfl (by decide)

theorem llLit66 : Statement .llLit66 := of_symbol rfl (by decide)

theorem llLit67 : Statement .llLit67 := of_symbol rfl (by decide)

theorem llLit68 : Statement .llLit68 := of_symbol rfl (by decide)

theorem llLit69 : Statement .llLit69 := of_symbol rfl (by decide)

theorem llLit70 : Statement .llLit70 := of_symbol rfl (by decide)

theorem llLit71 : Statement .llLit71 := of_symbol rfl (by decide)

theorem llLit72 : Statement .llLit72 := of_symbol rfl (by decide)

theorem llLit73 : Statement .llLit73 := of_symbol rfl (by decide)

theorem llLit74 : Statement .llLit74 := of_symbol rfl (by decide)

theorem llLit75 : Statement .llLit75 := of_symbol rfl (by decide)

theorem llLit76 : Statement .llLit76 := of_symbol rfl (by decide)

theorem llLit77 : Statement .llLit77 := of_symbol rfl (by decide)

theorem llLit78 : Statement .llLit78 := of_symbol rfl (by decide)

theorem llLit79 : Statement .llLit79 := of_symbol rfl (by decide)

theorem llLit80 : Statement .llLit80 := of_symbol rfl (by decide)

theorem llLit81 : Statement .llLit81 := of_symbol rfl (by decide)

theorem llLit82 : Statement .llLit82 := of_symbol rfl (by decide)

theorem llLit83 : Statement .llLit83 := of_symbol rfl (by decide)

theorem llLit84 : Statement .llLit84 := of_symbol rfl (by decide)

theorem llLit85 : Statement .llLit85 := of_symbol rfl (by decide)

theorem llLit86 : Statement .llLit86 := of_symbol rfl (by decide)

theorem llLit87 : Statement .llLit87 := of_symbol rfl (by decide)

theorem llLit88 : Statement .llLit88 := of_symbol rfl (by decide)

theorem llLit89 : Statement .llLit89 := of_symbol rfl (by decide)

theorem llLit90 : Statement .llLit90 := of_symbol rfl (by decide)

theorem llLit91 : Statement .llLit91 := of_symbol rfl (by decide)

theorem llLit92 : Statement .llLit92 := of_symbol rfl (by decide)

theorem llLit93 : Statement .llLit93 := of_symbol rfl (by decide)

theorem llLit94 : Statement .llLit94 := of_symbol rfl (by decide)

theorem llLit95 : Statement .llLit95 := of_symbol rfl (by decide)

theorem llLit96 : Statement .llLit96 := of_symbol rfl (by decide)

theorem llLit97 : Statement .llLit97 := of_symbol rfl (by decide)

theorem llLit98 : Statement .llLit98 := of_symbol rfl (by decide)

theorem llLit99 : Statement .llLit99 := of_symbol rfl (by decide)

theorem llLit100 : Statement .llLit100 := of_symbol rfl (by decide)

theorem llLit101 : Statement .llLit101 := of_symbol rfl (by decide)

theorem llLit102 : Statement .llLit102 := of_symbol rfl (by decide)

theorem llLit103 : Statement .llLit103 := of_symbol rfl (by decide)

theorem llLit104 : Statement .llLit104 := of_symbol rfl (by decide)

theorem llLit105 : Statement .llLit105 := of_symbol rfl (by decide)

theorem llLit106 : Statement .llLit106 := of_symbol rfl (by decide)

theorem llLit107 : Statement .llLit107 := of_symbol rfl (by decide)

theorem llLit108 : Statement .llLit108 := of_symbol rfl (by decide)

theorem llLit109 : Statement .llLit109 := of_symbol rfl (by decide)

theorem llLit110 : Statement .llLit110 := of_symbol rfl (by decide)

theorem llLit111 : Statement .llLit111 := of_symbol rfl (by decide)

theorem llLit112 : Statement .llLit112 := of_symbol rfl (by decide)

theorem llLit113 : Statement .llLit113 := of_symbol rfl (by decide)

theorem llLit114 : Statement .llLit114 := of_symbol rfl (by decide)

theorem llLit115 : Statement .llLit115 := of_symbol rfl (by decide)

theorem llLit116 : Statement .llLit116 := of_symbol rfl (by decide)

theorem llLit117 : Statement .llLit117 := of_symbol rfl (by decide)

theorem llLit118 : Statement .llLit118 := of_symbol rfl (by decide)

theorem llLit119 : Statement .llLit119 := of_symbol rfl (by decide)

theorem llLit120 : Statement .llLit120 := of_symbol rfl (by decide)

theorem llLit121 : Statement .llLit121 := of_symbol rfl (by decide)

theorem llLit122 : Statement .llLit122 := of_symbol rfl (by decide)

theorem llLit123 : Statement .llLit123 := of_symbol rfl (by decide)

theorem llLit124 : Statement .llLit124 := of_symbol rfl (by decide)

theorem llLit125 : Statement .llLit125 := of_symbol rfl (by decide)

theorem llLit126 : Statement .llLit126 := of_symbol rfl (by decide)

theorem llLit127 : Statement .llLit127 := of_symbol rfl (by decide)

theorem llLit128 : Statement .llLit128 := of_symbol rfl (by decide)

theorem llLit129 : Statement .llLit129 := of_symbol rfl (by decide)

theorem llLit130 : Statement .llLit130 := of_symbol rfl (by decide)

theorem llLit131 : Statement .llLit131 := of_symbol rfl (by decide)

theorem llLit132 : Statement .llLit132 := of_symbol rfl (by decide)

theorem llLit133 : Statement .llLit133 := of_symbol rfl (by decide)

theorem llLit134 : Statement .llLit134 := of_symbol rfl (by decide)

theorem llLit135 : Statement .llLit135 := of_symbol rfl (by decide)

theorem llLit136 : Statement .llLit136 := of_symbol rfl (by decide)

theorem llLit137 : Statement .llLit137 := of_symbol rfl (by decide)

theorem llLit138 : Statement .llLit138 := of_symbol rfl (by decide)

theorem llLit139 : Statement .llLit139 := of_symbol rfl (by decide)

theorem llLit140 : Statement .llLit140 := of_symbol rfl (by decide)

theorem llLit141 : Statement .llLit141 := of_symbol rfl (by decide)

theorem llLit142 : Statement .llLit142 := of_symbol rfl (by decide)

theorem llLit143 : Statement .llLit143 := of_symbol rfl (by decide)

theorem llLit144 : Statement .llLit144 := of_symbol rfl (by decide)

theorem llLit145 : Statement .llLit145 := of_symbol rfl (by decide)

theorem llLit146 : Statement .llLit146 := of_symbol rfl (by decide)

theorem llLit147 : Statement .llLit147 := of_symbol rfl (by decide)

theorem llLit148 : Statement .llLit148 := of_symbol rfl (by decide)

theorem llLit149 : Statement .llLit149 := of_symbol rfl (by decide)

theorem llLit150 : Statement .llLit150 := of_symbol rfl (by decide)

theorem llLit151 : Statement .llLit151 := of_symbol rfl (by decide)

theorem llLit152 : Statement .llLit152 := of_symbol rfl (by decide)

theorem llLit153 : Statement .llLit153 := of_symbol rfl (by decide)

theorem llLit154 : Statement .llLit154 := of_symbol rfl (by decide)

theorem llLit155 : Statement .llLit155 := of_symbol rfl (by decide)

theorem llLit156 : Statement .llLit156 := of_symbol rfl (by decide)

theorem llLit157 : Statement .llLit157 := of_symbol rfl (by decide)

theorem llLit158 : Statement .llLit158 := of_symbol rfl (by decide)

theorem llLit159 : Statement .llLit159 := of_symbol rfl (by decide)

theorem llLit160 : Statement .llLit160 := of_symbol rfl (by decide)

theorem llLit161 : Statement .llLit161 := of_symbol rfl (by decide)

theorem llLit162 : Statement .llLit162 := of_symbol rfl (by decide)

theorem llLit163 : Statement .llLit163 := of_symbol rfl (by decide)

theorem llLit164 : Statement .llLit164 := of_symbol rfl (by decide)

theorem llLit165 : Statement .llLit165 := of_symbol rfl (by decide)

theorem llLit166 : Statement .llLit166 := of_symbol rfl (by decide)

theorem llLit167 : Statement .llLit167 := of_symbol rfl (by decide)

theorem llLit168 : Statement .llLit168 := of_symbol rfl (by decide)

theorem llLit169 : Statement .llLit169 := of_symbol rfl (by decide)

theorem llLit170 : Statement .llLit170 := of_symbol rfl (by decide)

theorem llLit171 : Statement .llLit171 := of_symbol rfl (by decide)

theorem llLit172 : Statement .llLit172 := of_symbol rfl (by decide)

theorem llLit173 : Statement .llLit173 := of_symbol rfl (by decide)

theorem llLit174 : Statement .llLit174 := of_symbol rfl (by decide)

theorem llLit175 : Statement .llLit175 := of_symbol rfl (by decide)

theorem llLit176 : Statement .llLit176 := of_symbol rfl (by decide)

theorem llLit177 : Statement .llLit177 := of_symbol rfl (by decide)

theorem llLit178 : Statement .llLit178 := of_symbol rfl (by decide)

theorem llLit179 : Statement .llLit179 := of_symbol rfl (by decide)

theorem llLit180 : Statement .llLit180 := of_symbol rfl (by decide)

theorem llLit181 : Statement .llLit181 := of_symbol rfl (by decide)

theorem llLit182 : Statement .llLit182 := of_symbol rfl (by decide)

theorem llLit183 : Statement .llLit183 := of_symbol rfl (by decide)

theorem llLit184 : Statement .llLit184 := of_symbol rfl (by decide)

theorem llLit185 : Statement .llLit185 := of_symbol rfl (by decide)

theorem llLit186 : Statement .llLit186 := of_symbol rfl (by decide)

theorem llLit187 : Statement .llLit187 := of_symbol rfl (by decide)

theorem llLit188 : Statement .llLit188 := of_symbol rfl (by decide)

theorem llLit189 : Statement .llLit189 := of_symbol rfl (by decide)

theorem llLit190 : Statement .llLit190 := of_symbol rfl (by decide)

theorem llLit191 : Statement .llLit191 := of_symbol rfl (by decide)

theorem llLit192 : Statement .llLit192 := of_symbol rfl (by decide)

theorem llLit193 : Statement .llLit193 := of_symbol rfl (by decide)

theorem llLit194 : Statement .llLit194 := of_symbol rfl (by decide)

theorem llLit195 : Statement .llLit195 := of_symbol rfl (by decide)

theorem llLit196 : Statement .llLit196 := of_symbol rfl (by decide)

theorem llLit197 : Statement .llLit197 := of_symbol rfl (by decide)

theorem llLit198 : Statement .llLit198 := of_symbol rfl (by decide)

theorem llLit199 : Statement .llLit199 := of_symbol rfl (by decide)

theorem llLit200 : Statement .llLit200 := of_symbol rfl (by decide)

theorem llLit201 : Statement .llLit201 := of_symbol rfl (by decide)

theorem llLit202 : Statement .llLit202 := of_symbol rfl (by decide)

theorem llLit203 : Statement .llLit203 := of_symbol rfl (by decide)

theorem llLit204 : Statement .llLit204 := of_symbol rfl (by decide)

theorem llLit205 : Statement .llLit205 := of_symbol rfl (by decide)

theorem llLit206 : Statement .llLit206 := of_symbol rfl (by decide)

theorem llLit207 : Statement .llLit207 := of_symbol rfl (by decide)

theorem llLit208 : Statement .llLit208 := of_symbol rfl (by decide)

theorem llLit209 : Statement .llLit209 := of_symbol rfl (by decide)

theorem llLit210 : Statement .llLit210 := of_symbol rfl (by decide)

theorem llLit211 : Statement .llLit211 := of_symbol rfl (by decide)

theorem llLit212 : Statement .llLit212 := of_symbol rfl (by decide)

theorem llLit213 : Statement .llLit213 := of_symbol rfl (by decide)

theorem llLit214 : Statement .llLit214 := of_symbol rfl (by decide)

theorem llLit215 : Statement .llLit215 := of_symbol rfl (by decide)

theorem llLit216 : Statement .llLit216 := of_symbol rfl (by decide)

theorem llLit217 : Statement .llLit217 := of_symbol rfl (by decide)

theorem llLit218 : Statement .llLit218 := of_symbol rfl (by decide)

theorem llLit219 : Statement .llLit219 := of_symbol rfl (by decide)

theorem llLit220 : Statement .llLit220 := of_symbol rfl (by decide)

theorem llLit221 : Statement .llLit221 := of_symbol rfl (by decide)

theorem llLit222 : Statement .llLit222 := of_symbol rfl (by decide)

theorem llLit223 : Statement .llLit223 := of_symbol rfl (by decide)

theorem llLit224 : Statement .llLit224 := of_symbol rfl (by decide)

theorem llLit225 : Statement .llLit225 := of_symbol rfl (by decide)

theorem llLit226 : Statement .llLit226 := of_symbol rfl (by decide)

theorem llLit227 : Statement .llLit227 := of_symbol rfl (by decide)

theorem llLit228 : Statement .llLit228 := of_symbol rfl (by decide)

theorem llLit229 : Statement .llLit229 := of_symbol rfl (by decide)

theorem llLit230 : Statement .llLit230 := of_symbol rfl (by decide)

theorem llLit231 : Statement .llLit231 := of_symbol rfl (by decide)

theorem llLit232 : Statement .llLit232 := of_symbol rfl (by decide)

theorem llLit233 : Statement .llLit233 := of_symbol rfl (by decide)

theorem llLit234 : Statement .llLit234 := of_symbol rfl (by decide)

theorem llLit235 : Statement .llLit235 := of_symbol rfl (by decide)

theorem llLit236 : Statement .llLit236 := of_symbol rfl (by decide)

theorem llLit237 : Statement .llLit237 := of_symbol rfl (by decide)

theorem llLit238 : Statement .llLit238 := of_symbol rfl (by decide)

theorem llLit239 : Statement .llLit239 := of_symbol rfl (by decide)

theorem llLit240 : Statement .llLit240 := of_symbol rfl (by decide)

theorem llLit241 : Statement .llLit241 := of_symbol rfl (by decide)

theorem llLit242 : Statement .llLit242 := of_symbol rfl (by decide)

theorem llLit243 : Statement .llLit243 := of_symbol rfl (by decide)

theorem llLit244 : Statement .llLit244 := of_symbol rfl (by decide)

theorem llLit245 : Statement .llLit245 := of_symbol rfl (by decide)

theorem llLit246 : Statement .llLit246 := of_symbol rfl (by decide)

theorem llLit247 : Statement .llLit247 := of_symbol rfl (by decide)

theorem llLit248 : Statement .llLit248 := of_symbol rfl (by decide)

theorem llLit249 : Statement .llLit249 := of_symbol rfl (by decide)

theorem llLit250 : Statement .llLit250 := of_symbol rfl (by decide)

theorem llLit251 : Statement .llLit251 := of_symbol rfl (by decide)

theorem llLit252 : Statement .llLit252 := of_symbol rfl (by decide)

theorem llLit253 : Statement .llLit253 := of_symbol rfl (by decide)

theorem llLit254 : Statement .llLit254 := of_symbol rfl (by decide)

theorem llLit255 : Statement .llLit255 := of_symbol rfl (by decide)

theorem llEob : Statement .llEob := of_symbol rfl (by decide)

theorem llLen257 : Statement .llLen257 := of_symbol rfl (by decide)

theorem llLen258 : Statement .llLen258 := of_symbol rfl (by decide)

theorem llLen259 : Statement .llLen259 := of_symbol rfl (by decide)

theorem llLen260 : Statement .llLen260 := of_symbol rfl (by decide)

theorem llLen261 : Statement .llLen261 := of_symbol rfl (by decide)

theorem llLen262 : Statement .llLen262 := of_symbol rfl (by decide)

theorem llLen263 : Statement .llLen263 := of_symbol rfl (by decide)

theorem llLen264 : Statement .llLen264 := of_symbol rfl (by decide)

theorem llLen265 : Statement .llLen265 := of_symbol rfl (by decide)

theorem llLen266 : Statement .llLen266 := of_symbol rfl (by decide)

theorem llLen267 : Statement .llLen267 := of_symbol rfl (by decide)

theorem llLen268 : Statement .llLen268 := of_symbol rfl (by decide)

theorem llLen269 : Statement .llLen269 := of_symbol rfl (by decide)

theorem llLen270 : Statement .llLen270 := of_symbol rfl (by decide)

theorem llLen271 : Statement .llLen271 := of_symbol rfl (by decide)

theorem llLen272 : Statement .llLen272 := of_symbol rfl (by decide)

theorem llLen273 : Statement .llLen273 := of_symbol rfl (by decide)

theorem llLen274 : Statement .llLen274 := of_symbol rfl (by decide)

theorem llLen275 : Statement .llLen275 := of_symbol rfl (by decide)

theorem llLen276 : Statement .llLen276 := of_symbol rfl (by decide)

theorem llLen277 : Statement .llLen277 := of_symbol rfl (by decide)

theorem llLen278 : Statement .llLen278 := of_symbol rfl (by decide)

theorem llLen279 : Statement .llLen279 := of_symbol rfl (by decide)

theorem llLen280 : Statement .llLen280 := of_symbol rfl (by decide)

theorem llLen281 : Statement .llLen281 := of_symbol rfl (by decide)

theorem llLen282 : Statement .llLen282 := of_symbol rfl (by decide)

theorem llLen283 : Statement .llLen283 := of_symbol rfl (by decide)

theorem llLen284 : Statement .llLen284 := of_symbol rfl (by decide)

theorem llLen285 : Statement .llLen285 := of_symbol rfl (by decide)

theorem llRes286 : Statement .llRes286 := of_symbol rfl (by decide)

theorem llRes287 : Statement .llRes287 := of_symbol rfl (by decide)

theorem distD0 : Statement .distD0 := of_symbol rfl (by decide)

theorem distD1 : Statement .distD1 := of_symbol rfl (by decide)

theorem distD2 : Statement .distD2 := of_symbol rfl (by decide)

theorem distD3 : Statement .distD3 := of_symbol rfl (by decide)

theorem distD4 : Statement .distD4 := of_symbol rfl (by decide)

theorem distD5 : Statement .distD5 := of_symbol rfl (by decide)

theorem distD6 : Statement .distD6 := of_symbol rfl (by decide)

theorem distD7 : Statement .distD7 := of_symbol rfl (by decide)

theorem distD8 : Statement .distD8 := of_symbol rfl (by decide)

theorem distD9 : Statement .distD9 := of_symbol rfl (by decide)

theorem distD10 : Statement .distD10 := of_symbol rfl (by decide)

theorem distD11 : Statement .distD11 := of_symbol rfl (by decide)

theorem distD12 : Statement .distD12 := of_symbol rfl (by decide)

theorem distD13 : Statement .distD13 := of_symbol rfl (by decide)

theorem distD14 : Statement .distD14 := of_symbol rfl (by decide)

theorem distD15 : Statement .distD15 := of_symbol rfl (by decide)

theorem distD16 : Statement .distD16 := of_symbol rfl (by decide)

theorem distD17 : Statement .distD17 := of_symbol rfl (by decide)

theorem distD18 : Statement .distD18 := of_symbol rfl (by decide)

theorem distD19 : Statement .distD19 := of_symbol rfl (by decide)

theorem distD20 : Statement .distD20 := of_symbol rfl (by decide)

theorem distD21 : Statement .distD21 := of_symbol rfl (by decide)

theorem distD22 : Statement .distD22 := of_symbol rfl (by decide)

theorem distD23 : Statement .distD23 := of_symbol rfl (by decide)

theorem distD24 : Statement .distD24 := of_symbol rfl (by decide)

theorem distD25 : Statement .distD25 := of_symbol rfl (by decide)

theorem distD26 : Statement .distD26 := of_symbol rfl (by decide)

theorem distD27 : Statement .distD27 := of_symbol rfl (by decide)

theorem distD28 : Statement .distD28 := of_symbol rfl (by decide)

theorem distD29 : Statement .distD29 := of_symbol rfl (by decide)

theorem distRes30 : Statement .distRes30 := of_symbol rfl (by decide)

theorem distRes31 : Statement .distRes31 := of_symbol rfl (by decide)

end Sys2Proof.Laws.RowLaw
end

