-- ==== Sys2Proof/Laws/Progress.lean ====
section
/-! SUPPORT. Progress: no piece of a command gets stuck, and each reads the input forward.  A loop whose fuel exceeds
the bits left therefore never uses it up (R322). -/

namespace Sys2Proof.Machine

/-- The piece does not get stuck, and where it goes on, at most `n` bits are left. -/
def Res.Within {α : Type} (n : Nat) : Res α → Prop
  | .ok _ s => s.bitsLeft ≤ n
  | .err _ _ => True
  | .stuck => False

@[simp] theorem Within_ok {α : Type} (n : Nat) (a : α) (s : State) : (Res.ok a s).Within n ↔ s.bitsLeft ≤ n := Iff.rfl

@[simp] theorem Within_err {α : Type} (n : Nat) (e : Status) (s : State) : (Res.err e s : Res α).Within n := trivial

theorem Within_mono {α : Type} {n m : Nat} {r : Res α} (h : r.Within n) (hnm : n ≤ m) : r.Within m := by
  cases r with
  | ok a s => exact Nat.le_trans h hnm
  | err e s => trivial
  | stuck => exact h

/-- A sequence stays within the bound of its second piece. -/
theorem Within_bind {α β : Type} {n m : Nat} {r : Res α} {f : α → State → Res β} (hr : r.Within n)
    (hf : ∀ a s, r = .ok a s → s.bitsLeft ≤ n → (f a s).Within m) : (r.bind f).Within m := by
  cases r with
  | ok a s => exact hf a s rfl hr
  | err e s => trivial
  | stuck => exact hr.elim

theorem readBits_within {n : Nat} (hn : n ≤ 56) (s : State) : (readBits n false s).Within s.bitsLeft := by
  cases h : readBits n false s with
  | ok v t => have := readBits_ok_bitsLeft hn h; simp; omega
  | err e t => trivial
  | stuck => exact (readBits_ne_stuck _ _ _ h).elim

/-- A symbol that is decoded has consumed at least one bit. -/
theorem decodeBits_within (k : Sel) (fuel : Nat) (s : State) (h : s.bitsLeft < fuel) :
    (decodeBits k fuel s).Within (s.bitsLeft - 1) ∧
      ∀ sym t, decodeBits k fuel s = .ok sym t → 1 ≤ s.bitsLeft := by
  induction fuel generalizing s with
  | zero => omega
  | succ fuel ih =>
    simp only [decodeBits]
    cases hr : readBits 1 false s with
    | err e t => simp
    | stuck => exact (readBits_ne_stuck _ _ _ hr).elim
    | ok b s1 =>
      have hb := readBits_ok_bitsLeft (by omega) hr
      rcases hadv : (s1.tree k).advance (b == 1) with ⟨r, t⟩
      cases r with
      | symbol sym => simp [hadv]; omega
      | pending =>
        have := ih (s1.setTree k t) (by rw [setTree_bitsLeft]; omega)
        simp only [Res.bind_ok, hadv]
        rw [setTree_bitsLeft] at this
        exact ⟨Within_mono this.1 (by omega), fun _ _ _ => by omega⟩
      | invalid => simp [hadv]

theorem decodeSymbol_within (k : Sel) (s : State) : (decodeSymbol k s).Within (s.bitsLeft - 1) := by
  have := (decodeBits_within k (s.bitsLeft + 1) (s.setTree k (s.tree k).resetCursor)
    (by rw [setTree_bitsLeft]; omega)).1
  rwa [setTree_bitsLeft] at this

theorem decodeSymbol_ok_bitsLeft {k : Sel} {s t : State} {sym : BitVec 9} (h : decodeSymbol k s = .ok sym t) :
    t.bitsLeft < s.bitsLeft := by
  have hd := decodeBits_within k (s.bitsLeft + 1) (s.setTree k (s.tree k).resetCursor)
    (by rw [setTree_bitsLeft]; omega)
  rw [setTree_bitsLeft] at hd
  have h1 := hd.2 _ _ h
  have h2 := hd.1
  rw [decodeSymbol] at h
  rw [h] at h2
  simp only [Within_ok] at h2
  omega

@[simp] theorem putLength_bitsLeft (v : BitVec 4) (s : State) : (putLength v s).bitsLeft = s.bitsLeft := by
  simp only [putLength]
  split <;> simp

@[simp] theorem putLengths_bitsLeft (v : BitVec 4) (n : Nat) (s : State) :
    (putLengths v n s).bitsLeft = s.bitsLeft := by
  induction n generalizing s with
  | zero => rfl
  | succ n ih => rw [putLengths, ih, putLength_bitsLeft]

@[simp] theorem setLastLength_bitsLeft (v : BitVec 4) (s : State) : (setLastLength v s).bitsLeft = s.bitsLeft := rfl

@[simp] theorem copyBytes_bitsLeft (dist n : Nat) (s : State) : (copyBytes dist n s).bitsLeft = s.bitsLeft := by
  induction n generalizing s with
  | zero => rfl
  | succ n ih => rw [copyBytes, ih, append_bitsLeft]

theorem repeatLast_within (n : Nat) (s : State) : (repeatLast n s).Within s.bitsLeft := by
  simp only [repeatLast]
  split <;> simp

theorem clSymbol_within (v : Nat) (s : State) : (clSymbol v s).Within s.bitsLeft := by
  simp only [clSymbol]
  split
  · simp [lengthValue]
  · split
    · exact Within_bind (readBits_within (by omega) s) fun _ s1 _ h => Within_mono (repeatLast_within _ _) h
    · split
      · exact Within_bind (readBits_within (by omega) s) fun _ s1 _ h =>
          Within_mono (repeatLast_within _ _) (by simpa using h)
      · split
        · exact Within_bind (readBits_within (by omega) s) fun _ s1 _ h =>
            Within_mono (repeatLast_within _ _) (by simpa using h)
        · trivial

theorem lengthCode_within {e : Nat} (he : e ≤ 56) (base : Nat) (s : State) :
    (lengthCode e base s).Within s.bitsLeft :=
  Within_bind (readBits_within he s) fun _ _ _ h => by simpa using h

theorem distanceCode_within {e : Nat} (he : e ≤ 56) (base : Nat) (s : State) :
    (distanceCode e base s).Within s.bitsLeft := by
  refine Within_bind (readBits_within he s) fun x s1 _ h => ?_
  split
  · trivial
  · simpa using h

theorem llSymbol_within (v : Nat) (s : State) : (llSymbol v s).Within s.bitsLeft := by
  simp only [llSymbol]
  split
  · simp [literal]
  · split
    · simp [endOfBlock]
    · split
      · rename_i he
        exact lengthCode_within (Nat.le_trans (lengthTable_extra he) (by omega)) _ s
      · trivial

theorem distSymbol_within (v : Nat) (s : State) : (distSymbol v s).Within s.bitsLeft := by
  simp only [distSymbol]
  split
  · rename_i he
    exact distanceCode_within (Nat.le_trans (distanceTable_extra he) (by omega)) _ s
  · trivial

theorem buildTree_within (k : Sel) (s : State) : (buildTree k s).Within s.bitsLeft := by
  rcases ht : Tree.build (Config.nodecap k) (s.codes k) 0 Tree.empty with ⟨e, t⟩
  cases e <;> simp [buildTree, ht]

end Sys2Proof.Machine
end

