-- ==== Sys2Proof/Laws/Stream.lean ====
section
/-! SUPPORT. The bit reader seen as a list of stream bits: a top-up keeps them, and a consuming read takes them from
the front. -/

namespace Sys2Proof.Machine

/-- The buffered bits of an accumulator. -/
abbrev bufferedBits (acc : BitVec 39) (cnt : Nat) : List Bool := (List.range cnt).map acc.getLsbD

theorem range_add_map {α : Type} (n m : Nat) (f : Nat → α) :
    (List.range (n + m)).map f = (List.range n).map f ++ (List.range m).map fun j => f (n + j) := by
  simp [List.range_add, Function.comp_def]

/-- One fetched byte adds its bits after those buffered, and keeps the accumulator below the new count. -/
theorem fetch_bits {acc : BitVec 39} {cnt : BitVec 6} (b : Byte) (hacc : acc.toNat < 2 ^ cnt.toNat)
    (hcnt : cnt.toNat ≤ 31) :
    bufferedBits (acc ||| (b.setWidth 39 <<< cnt.toNat)) (cnt.toNat + 8) =
        bufferedBits acc cnt.toNat ++ byteBits b ∧
      (acc ||| (b.setWidth 39 <<< cnt.toNat)).toNat < 2 ^ (cnt.toNat + 8) := by
  constructor
  · rw [bufferedBits, range_add_map]
    congr 1
    · refine List.map_congr_left fun i hi => ?_
      have := List.mem_range.mp hi
      simp [this]
    · refine List.map_congr_left fun j hj => ?_
      have hj := List.mem_range.mp hj
      have h0 : acc.getLsbD (cnt.toNat + j) = false := by
        rw [BitVec.getLsbD]
        exact Nat.testBit_lt_two_pow (Nat.lt_of_lt_of_le hacc (Nat.pow_le_pow_right (by omega) (by omega)))
      have h1 : cnt.toNat + j < 39 := by omega
      rw [BitVec.getLsbD_or, h0]
      simp [h1]
  · rw [BitVec.toNat_or]
    refine Nat.or_lt_two_pow (Nat.lt_of_lt_of_le hacc (Nat.pow_le_pow_right (by omega) (by omega))) ?_
    rw [BitVec.toNat_shiftLeft, Nat.shiftLeft_eq]
    refine Nat.lt_of_le_of_lt (Nat.mod_le _ _) ?_
    have hb : (b.setWidth 39).toNat < 2 ^ 8 := by
      have := b.isLt
      rw [BitVec.toNat_setWidth]
      exact Nat.lt_of_le_of_lt (Nat.mod_le _ _) this
    calc (b.setWidth 39).toNat * 2 ^ cnt.toNat < 2 ^ 8 * 2 ^ cnt.toNat :=
          Nat.mul_lt_mul_of_pos_right hb (Nat.two_pow_pos _)
      _ = 2 ^ (cnt.toNat + 8) := by rw [← Nat.pow_add]; congr 1; omega

/-- A top-up keeps the stream bits and the reader's conditions. -/
theorem topUp_bits {n : Nat} (hn : n ≤ 32) (input : List Byte) (acc : BitVec 39) (cnt : BitVec 6)
    (hcnt : cnt.toNat ≤ 39) (hacc : acc.toNat < 2 ^ cnt.toNat) :
    let t := topUp n input acc cnt
    (bufferedBits t.acc t.cnt.toNat ++ t.input.flatMap byteBits =
        bufferedBits acc cnt.toNat ++ input.flatMap byteBits) ∧
      t.cnt.toNat ≤ 39 ∧ t.acc.toNat < 2 ^ t.cnt.toNat := by
  induction input generalizing acc cnt with
  | nil => simpa [topUp] using ⟨hcnt, hacc⟩
  | cons b rest ih =>
    simp only [topUp]
    split
    · exact ⟨rfl, hcnt, hacc⟩
    · rename_i h
      have h8 : (cnt + 8).toNat = cnt.toNat + 8 := cnt_add_eight (by omega)
      have hf := fetch_bits b hacc (by omega)
      have := ih (acc ||| (b.setWidth 39 <<< cnt.toNat)) (cnt + 8) (by omega) (by rw [h8]; exact hf.2)
      refine ⟨this.1.trans ?_, this.2⟩
      rw [h8, hf.1]
      simp

theorem toppedUp_streamBits {n : Nat} (hn : n ≤ 32) {s : State} (h : s.readerOk) :
    (s.toppedUp n).streamBits = s.streamBits ∧ (s.toppedUp n).readerOk :=
  ⟨(topUp_bits hn s.input s.brAcc s.brCnt h.1 h.2).1, (topUp_bits hn s.input s.brAcc s.brCnt h.1 h.2).2⟩

/-- The value of the low bits of a number, read as a list of bits. -/
theorem bitsValue_testBit (x n : Nat) : bitsValue ((List.range n).map x.testBit) = x % 2 ^ n := by
  induction n generalizing x with
  | zero => simp [bitsValue, Nat.mod_one]
  | succ n ih =>
    have h : (List.range (n + 1)).map x.testBit = x.testBit 0 :: (List.range n).map (x / 2).testBit := by
      rw [List.range_succ_eq_map, List.map_cons, List.map_map]
      congr 1
      refine List.map_congr_left fun i _ => ?_
      simp [Nat.testBit_succ]
    rw [h, bitsValue, ih]
    have h2 : (x.testBit 0).toNat = x % 2 := by
      rcases Nat.mod_two_eq_zero_or_one x with hx | hx <;> simp [Nat.testBit_zero, hx]
    rw [h2, Nat.pow_succ, Nat.mul_comm (2 ^ n) 2, Nat.mod_mul]

theorem bufferedBits_take {acc : BitVec 39} {n cnt : Nat} (h : n ≤ cnt) :
    (bufferedBits acc cnt).take n = (List.range n).map acc.toNat.testBit := by
  rw [bufferedBits, ← List.map_take, List.take_range, Nat.min_eq_left h]
  rfl

theorem bufferedBits_drop {acc : BitVec 39} {n cnt : Nat} (h : n ≤ cnt) :
    (bufferedBits acc cnt).drop n = bufferedBits (acc >>> n) (cnt - n) := by
  obtain ⟨m, rfl⟩ := Nat.exists_eq_add_of_le h
  have h0 : (bufferedBits acc n).drop n = [] := List.drop_eq_nil_of_le (by simp)
  rw [bufferedBits, range_add_map, List.drop_append_of_le_length (by simp), h0]
  simp

/-- How many stream bits there are. -/
theorem streamBits_length (s : State) : s.streamBits.length = s.bitsLeft := by
  have h : ∀ l : List Byte, (l.flatMap byteBits).length = 8 * l.length := by
    intro l
    induction l with
    | nil => rfl
    | cons b rest ih =>
      simp only [List.flatMap_cons, List.length_append, List.length_cons, ih]
      simp [byteBits]
      omega
  simp only [State.streamBits, State.bitsLeft, List.length_append, List.length_map, List.length_range, h]
  omega

theorem consume_brCnt_toNat {n : Nat} {s : State} (h : n ≤ s.brCnt.toNat) :
    (s.consume n).brCnt.toNat = s.brCnt.toNat - n := by
  have := s.brCnt.isLt
  simp only [consume_brCnt]
  rw [BitVec.toNat_sub, BitVec.toNat_ofNat]
  omega

/-- Consuming buffered bits takes them from the front of the stream and keeps the reader's conditions. -/
theorem consume_streamBits {n : Nat} {s : State} (h : n ≤ s.brCnt.toNat) (hr : s.readerOk) :
    (s.consume n).streamBits = s.streamBits.drop n ∧ (s.consume n).readerOk := by
  have hc := consume_brCnt_toNat h
  refine ⟨?_, ?_, ?_⟩
  · rw [State.streamBits, State.streamBits, hc, List.drop_append_of_le_length (by simpa using h)]
    congr 1
    exact (bufferedBits_drop h).symm
  · rw [hc]; have := hr.1; omega
  · rw [hc]
    simp only [consume_brAcc, BitVec.toNat_ushiftRight, Nat.shiftRight_eq_div_pow]
    rw [Nat.div_lt_iff_lt_mul (Nat.two_pow_pos n), ← Nat.pow_add, Nat.sub_add_cancel h]
    exact hr.2

/-- `ReadBits` on the stream: it answers the number of the next `n` bits, and leaves the bits after them, or all of
them if it keeps them (R69, R70, R142, R144). -/
theorem readBits_stream {n : Nat} (hn : n ≤ 32) (keep : Bool) {s : State} (hr : s.readerOk) (h : n ≤ s.bitsLeft) :
    ∃ t, readBits n keep s = .ok (bitsValue (s.streamBits.take n)) t ∧ t.readerOk ∧
      t.streamBits = (if keep then s.streamBits else s.streamBits.drop n) := by
  have htop := toppedUp_streamBits hn hr
  rcases readBits_cases (by omega : n ≤ 56) keep s with ⟨-, hc, he⟩ | ⟨hlt, -⟩
  · have hv : (s.toppedUp n).brAcc.toNat % 2 ^ n = bitsValue (s.streamBits.take n) := by
      rw [← htop.1, State.streamBits, List.take_append_of_le_length (by simpa using hc),
        bufferedBits_take hc, bitsValue_testBit]
    rw [hv] at he
    refine ⟨_, he, ?_⟩
    have hcons := consume_streamBits hc htop.2
    cases keep
    · simpa [htop.1] using And.intro hcons.2 hcons.1
    · simpa [htop.1] using htop.2
  · omega

end Sys2Proof.Machine
end

