-- ==== Sys2Proof/Laws/Trees.lean ====
section
/-! SUPPORT. Huffman trees: the invariants of an arena under every operation, and the paths an insertion adds. -/

namespace Sys2Proof.Machine

/-! ### Nodes -/

@[simp] theorem child_setChild (c0 c1 : Option (BitVec 12)) (b b' : Bool) (m : BitVec 12) :
    ((Node.internal c0 c1).setChild b m).child b' = if b' = b then some m else (Node.internal c0 c1).child b' := by
  cases b <;> cases b' <;> rfl

theorem setChild_internal (c0 c1 : Option (BitVec 12)) (b : Bool) (m : BitVec 12) :
    ∃ d0 d1, (Node.internal c0 c1).setChild b m = .internal d0 d1 := by
  cases b <;> exact ⟨_, _, rfl⟩

@[simp] theorem child_leaf (sym : BitVec 9) (b : Bool) : (Node.leaf sym).child b = none := rfl

@[simp] theorem child_empty (b : Bool) : (Node.internal none none).child b = none := by cases b <;> rfl

/-! ### One new node under a node -/

/-- The arena with one more node `new`, at the next index `m`, as the child of `n` in direction `b`. -/
def Tree.link (t : Tree) (n : BitVec 12) (b : Bool) (new : Node) : Tree :=
  { t with nodes := (t.nodes ++ [new]).set n.toNat ((t.node n).setChild b t.ncnt) }

theorem grow_succ (c : Nat) (sym : BitVec 9) (k : Nat) (n : BitVec 12) (t : Tree) :
    Tree.grow c sym (k + 1) n t =
      Tree.grow c sym k t.ncnt (t.link n (c.testBit k) (if k = 0 then .leaf sym else .internal none none)) := rfl

@[simp] theorem link_length (t : Tree) (n : BitVec 12) (b : Bool) (new : Node) :
    (t.link n b new).nodes.length = t.nodes.length + 1 := by simp [Tree.link]

@[simp] theorem link_cur (t : Tree) (n : BitVec 12) (b : Bool) (new : Node) : (t.link n b new).cur = t.cur := rfl

theorem ncnt_toNat {t : Tree} (h : t.nodes.length < 4096) : t.ncnt.toNat = t.nodes.length := by
  simp only [Tree.ncnt, BitVec.toNat_ofNat]
  exact Nat.mod_eq_of_lt h

/-- The nodes of the arena after one link: the parent has its child, the new node stands at the next index, and
every other node is as it was. -/
theorem link_node {t : Tree} {n : BitVec 12} (b : Bool) (new : Node) (hlen : t.nodes.length < 4096)
    (hn : n.toNat < t.nodes.length) (x : BitVec 12) :
    (t.link n b new).node x =
      if x = n then (t.node n).setChild b t.ncnt else if x = t.ncnt then new else t.node x := by
  have hm := ncnt_toNat hlen
  by_cases hxn : x = n
  · subst hxn
    rw [if_pos rfl]
    have : x.toNat < (t.nodes ++ [new]).length := by simp; omega
    simp only [Tree.node, Tree.link, List.getElem?_set_self this, Option.getD_some]
  · have hne : n.toNat ≠ x.toNat := fun e => hxn (BitVec.eq_of_toNat_eq e.symm)
    rw [if_neg hxn]
    simp only [Tree.node, Tree.link, List.getElem?_set_ne hne]
    by_cases hxm : x = t.ncnt
    · subst hxm
      rw [if_pos rfl, hm, List.getElem?_append_right (Nat.le_refl _)]
      simp
    · rw [if_neg hxm]
      have hne2 : x.toNat ≠ t.nodes.length := fun e => hxm (BitVec.eq_of_toNat_eq (by rw [e, hm]))
      by_cases hlt : x.toNat < t.nodes.length
      · rw [List.getElem?_append_left hlt]
      · rw [List.getElem?_eq_none (by simp; omega), List.getElem?_eq_none (by omega)]

/-- The children after one link. -/
theorem link_child {t : Tree} {n : BitVec 12} {b : Bool} {new : Node} (hlen : t.nodes.length < 4096)
    (hn : n.toNat < t.nodes.length) {c0 c1 : Option (BitVec 12)} (hint : t.node n = .internal c0 c1)
    (hnew : ∀ d, new.child d = none) (x : BitVec 12) (d : Bool) :
    ((t.link n b new).node x).child d =
      if x = n ∧ d = b then some t.ncnt else if x = t.ncnt then none else (t.node x).child d := by
  have hm := ncnt_toNat hlen
  rw [link_node b new hlen hn]
  by_cases hxn : x = n
  · subst hxn
    have hne : x ≠ t.ncnt := fun e => by rw [e, hm] at hn; omega
    simp only [if_true, true_and, if_neg hne, hint, child_setChild]
  · simp only [hxn, false_and, if_false]
    split
    · exact hnew d
    · rfl

/-- Linking a new childless node to an internal node that has no child there keeps the invariants. -/
theorem link_wf {t : Tree} {cap : Nat} (hcap : cap < 4096) (h : t.wf cap) (hroom : t.nodes.length < cap)
    {n : BitVec 12} {b : Bool} {new : Node} (hn : n.toNat < t.nodes.length) {c0 c1 : Option (BitVec 12)}
    (hint : t.node n = .internal c0 c1) (hnone : (t.node n).child b = none) (hnew : ∀ d, new.child d = none) :
    (t.link n b new).wf cap := by
  have hlen : t.nodes.length < 4096 := by omega
  have hm := ncnt_toNat hlen
  have hch := fun x d => link_child (b := b) hlen hn hint hnew x d
  have hbelow : ∀ x : BitVec 12, ∀ d y, x.toNat < t.nodes.length + 1 → ((t.link n b new).node x).child d = some y →
      (x = n ∧ d = b ∧ y = t.ncnt) ∨
      (x.toNat < t.nodes.length ∧ ¬(x = n ∧ d = b) ∧ (t.node x).child d = some y) := by
    intro x d y hx hy
    rw [hch] at hy
    split at hy
    · rename_i he
      exact .inl ⟨he.1, he.2, by simpa using hy.symm⟩
    · split at hy
      · cases hy
      · rename_i h1 h2
        refine .inr ⟨?_, h1, hy⟩
        have : x.toNat ≠ t.nodes.length := fun e => h2 (BitVec.eq_of_toNat_eq (by rw [e, hm]))
        omega
  refine ⟨?_, ?_, ?_, ?_, ?_, ?_⟩
  · obtain ⟨r0, r1, hr⟩ := h.root
    by_cases h0 : n.toNat = 0
    · obtain ⟨d0, d1, hd⟩ := setChild_internal c0 c1 b t.ncnt
      refine ⟨d0, d1, ?_⟩
      simp only [Tree.link, h0]
      rw [List.getElem?_set_self (by simp), hint, hd]
    · refine ⟨r0, r1, ?_⟩
      simp only [Tree.link]
      rw [List.getElem?_set_ne h0, List.getElem?_append_left (by omega)]
      exact hr
  · rw [link_length]; omega
  · rw [link_length, link_cur]; have := h.cur_lt; omega
  · intro x d y hx hy
    rw [link_length] at hx ⊢
    rcases hbelow x d y hx hy with ⟨rfl, -, rfl⟩ | ⟨hx', -, hy'⟩
    · rw [hm]; omega
    · have := h.child_later x d y hx' hy'
      omega
  · intro y hy0 hy
    rw [link_length] at hy ⊢
    by_cases hyl : y.toNat = t.nodes.length
    · refine ⟨n, b, by omega, ?_⟩
      rw [hch, if_pos ⟨rfl, rfl⟩]
      exact congrArg some (BitVec.eq_of_toNat_eq (by rw [hm, hyl]))
    · obtain ⟨x, d, hx, hxy⟩ := h.has_parent y hy0 (by omega)
      refine ⟨x, d, by omega, ?_⟩
      have h1 : ¬(x = n ∧ d = b) := by
        rintro ⟨rfl, rfl⟩
        rw [hnone] at hxy
        cases hxy
      have h2 : x ≠ t.ncnt := fun e => by rw [e, hm] at hx; omega
      rw [hch, if_neg h1, if_neg h2]
      exact hxy
  · intro x x' d d' y hx hx' hy hy'
    rw [link_length] at hx hx'
    rcases hbelow x d y hx hy with ⟨rfl, rfl, rfl⟩ | ⟨hx1, -, hy1⟩
    · rcases hbelow x' d' _ hx' hy' with ⟨rfl, rfl, -⟩ | ⟨hx2, -, hy2⟩
      · exact ⟨rfl, rfl⟩
      · have := (h.child_later _ _ _ hx2 hy2).2
        rw [hm] at this; omega
    · rcases hbelow x' d' y hx' hy' with ⟨rfl, rfl, rfl⟩ | ⟨hx2, -, hy2⟩
      · have := (h.child_later _ _ _ hx1 hy1).2
        rw [hm] at this; omega
      · exact h.one_parent _ _ _ _ _ hx1 hx2 hy1 hy2

/-- After a link, a path between allocated nodes is still one. -/
theorem link_walk {t : Tree} {cap : Nat} (hcap : cap < 4096) (h : t.wf cap) {n : BitVec 12} {b : Bool} {new : Node}
    (hn : n.toNat < t.nodes.length) {c0 c1 : Option (BitVec 12)} (hint : t.node n = .internal c0 c1)
    (hnone : (t.node n).child b = none) (hnew : ∀ d, new.child d = none) (bits : List Bool) (x y : BitVec 12)
    (hx : x.toNat < t.nodes.length) (hw : t.walk x bits = some y) : (t.link n b new).walk x bits = some y := by
  have hlen : t.nodes.length < 4096 := by have := h.ncnt_le; omega
  induction bits generalizing x with
  | nil => exact hw
  | cons d rest ih =>
    simp only [Tree.walk] at hw ⊢
    cases hc : (t.node x).child d with
    | none => rw [hc] at hw; cases hw
    | some z =>
      rw [hc] at hw
      have h1 : ¬(x = n ∧ d = b) := by
        rintro ⟨rfl, rfl⟩
        rw [hnone] at hc
        cases hc
      have h2 : x ≠ t.ncnt := fun e => by rw [e, ncnt_toNat hlen] at hx; omega
      rw [link_child hlen hn hint hnew, if_neg h1, if_neg h2, hc]
      exact ih z (h.child_later _ _ _ hx hc).2 hw

/-! ### The tail of an insertion -/

theorem codeBits_succ (k c : Nat) : codeBits (k + 1) c = c.testBit k :: codeBits k c := by
  simp only [codeBits, List.range_succ, List.reverse_append, List.reverse_singleton, List.singleton_append,
    List.map_cons]

/-- What `grow` leaves: the invariants, every old path and leaf, the new path to the new LEAF, and one node more for
each code bit that was left. -/
theorem grow_spec {cap : Nat} (hcap : cap < 4096) (c : Nat) (sym : BitVec 9) (k : Nat) {n : BitVec 12} {t : Tree}
    (h : t.wf cap) (hroom : t.nodes.length + (k + 1) ≤ cap) (hn : n.toNat < t.nodes.length)
    {c0 c1 : Option (BitVec 12)} (hint : t.node n = .internal c0 c1)
    (hnone : (t.node n).child (c.testBit k) = none) :
    (Tree.grow c sym (k + 1) n t).wf cap ∧
      (Tree.grow c sym (k + 1) n t).nodes.length = t.nodes.length + (k + 1) ∧
      (Tree.grow c sym (k + 1) n t).cur = t.cur ∧
      (∀ bits x y, x.toNat < t.nodes.length → t.walk x bits = some y →
        (Tree.grow c sym (k + 1) n t).walk x bits = some y) ∧
      (∀ x s, x.toNat < t.nodes.length → t.node x = .leaf s → (Tree.grow c sym (k + 1) n t).node x = .leaf s) ∧
      ∃ m, (Tree.grow c sym (k + 1) n t).walk n (codeBits (k + 1) c) = some m ∧
        (Tree.grow c sym (k + 1) n t).node m = .leaf sym := by
  induction k generalizing n t c0 c1 with
  | zero =>
    have hlen : t.nodes.length < 4096 := by omega
    have hm := ncnt_toNat hlen
    have hnew : ∀ d, (Node.leaf sym).child d = none := fun _ => rfl
    have hwf : (t.link n (c.testBit 0) (.leaf sym)).wf cap :=
      link_wf hcap h (by omega) hn hint hnone hnew
    have hg : Tree.grow c sym 1 n t = t.link n (c.testBit 0) (.leaf sym) := rfl
    have hnm : t.ncnt ≠ n := fun e => by rw [← e, hm] at hn; omega
    rw [Nat.zero_add, hg]
    refine ⟨hwf, link_length _ _ _ _, rfl, ?_, ?_, t.ncnt, ?_, ?_⟩
    · exact fun bits x y hx hw => link_walk hcap h hn hint hnone hnew bits x y hx hw
    · intro x s hx hl
      have h1 : x ≠ n := fun e => by rw [e, hint] at hl; cases hl
      have h2 : x ≠ t.ncnt := fun e => by rw [e, hm] at hx; omega
      rw [link_node _ _ hlen hn, if_neg h1, if_neg h2, hl]
    · have hc := link_child (b := c.testBit 0) hlen hn hint hnew n (c.testBit 0)
      rw [if_pos ⟨rfl, rfl⟩] at hc
      simp only [codeBits, List.range_one, List.reverse_singleton, List.map_singleton, Tree.walk, hc]
    · rw [link_node _ _ hlen hn, if_neg hnm, if_pos rfl]
  | succ k ih =>
    have hlen : t.nodes.length < 4096 := by omega
    have hm := ncnt_toNat hlen
    have hnew : ∀ d, (Node.internal none none).child d = none := fun d => child_empty d
    have hwf : (t.link n (c.testBit (k + 1)) (.internal none none)).wf cap :=
      link_wf hcap h (by omega) hn hint hnone hnew
    have hnm : t.ncnt ≠ n := fun e => by rw [← e, hm] at hn; omega
    have hnode : (t.link n (c.testBit (k + 1)) (.internal none none)).node t.ncnt = .internal none none := by
      rw [link_node _ _ hlen hn, if_neg hnm, if_pos rfl]
    have hg : Tree.grow c sym (k + 1 + 1) n t =
        Tree.grow c sym (k + 1) t.ncnt (t.link n (c.testBit (k + 1)) (.internal none none)) := by
      rw [grow_succ, if_neg (by omega)]
    obtain ⟨i1, i2, i3, i4, i5, m, i6, i7⟩ :=
      ih (t := t.link n (c.testBit (k + 1)) (.internal none none)) (n := t.ncnt) hwf
        (by rw [link_length]; omega) (by rw [link_length, hm]; omega) hnode (by rw [hnode]; exact hnew _)
    rw [hg]
    refine ⟨i1, ?_, ?_, ?_, ?_, m, ?_, i7⟩
    · rw [i2, link_length]; omega
    · rw [i3, link_cur]
    · intro bits x y hx hw
      exact i4 bits x y (by rw [link_length]; omega) (link_walk hcap h hn hint hnone hnew bits x y hx hw)
    · intro x s hx hl
      refine i5 x s (by rw [link_length]; omega) ?_
      have h1 : x ≠ n := fun e => by rw [e, hint] at hl; cases hl
      have h2 : x ≠ t.ncnt := fun e => by rw [e, hm] at hx; omega
      rw [link_node _ _ hlen hn, if_neg h1, if_neg h2, hl]
    · have hstep : (t.link n (c.testBit (k + 1)) (.internal none none)).walk n [c.testBit (k + 1)] =
          some t.ncnt := by
        have hc := link_child (b := c.testBit (k + 1)) hlen hn hint hnew n (c.testBit (k + 1))
        rw [if_pos ⟨rfl, rfl⟩] at hc
        simp only [Tree.walk, hc]
      have hfirst := i4 [c.testBit (k + 1)] n t.ncnt (by rw [link_length]; omega) hstep
      rw [codeBits_succ (k + 1)]
      simp only [Tree.walk] at hfirst ⊢
      split at hfirst
      · rename_i z hz
        cases hfirst
        exact i6
      · cases hfirst

/-! ### An insertion -/

/-- Everything an insertion that succeeds leaves (R182, R183): the invariants hold, the cursor stays, every path and
every LEAF of the tree before is there, and the code's bits lead to a LEAF of the symbol. -/
theorem insertFrom_spec {cap : Nat} (hcap : cap < 4096) (c : Nat) (sym : BitVec 9) (k : Nat) {n : BitVec 12}
    {t : Tree} (h : t.wf cap) (hn : n.toNat < t.nodes.length) {t' : Tree}
    (hi : Tree.insertFrom cap c sym k n t = .inserted t') :
    t'.wf cap ∧ t.nodes.length < t'.nodes.length ∧ t'.cur = t.cur ∧
      (∀ bits x y, x.toNat < t.nodes.length → t.walk x bits = some y → t'.walk x bits = some y) ∧
      (∀ x s, x.toNat < t.nodes.length → t.node x = .leaf s → t'.node x = .leaf s) ∧
      ∃ m, t'.walk n (codeBits k c) = some m ∧ t'.node m = .leaf sym := by
  induction k generalizing n with
  | zero =>
    simp only [Tree.insertFrom] at hi
    split at hi <;> cases hi
  | succ k ih =>
    simp only [Tree.insertFrom] at hi
    split at hi
    · cases hi
    · rename_i c0 c1 hint
      split at hi
      · rename_i m hm
        rw [← hint] at hm
        obtain ⟨i1, i2, i3, i4, i5, z, i6, i7⟩ := ih (h.child_later _ _ _ hn hm).2 hi
        refine ⟨i1, i2, i3, i4, i5, z, ?_, i7⟩
        have hstep : t.walk n [c.testBit k] = some m := by simp only [Tree.walk, hm]
        have hfirst := i4 _ _ _ hn hstep
        rw [codeBits_succ]
        simp only [Tree.walk] at hfirst ⊢
        split at hfirst
        · rename_i y hy
          cases hfirst
          exact i6
        · cases hfirst
      · rename_i hnone
        split at hi
        · cases hi
        · rename_i hroom
          cases hi
          rw [← hint] at hnone
          obtain ⟨g1, g2, g3, g4, g5, g6⟩ := grow_spec hcap c sym k h (by omega) hn hint hnone
          exact ⟨g1, by omega, g3, g4, g5, g6⟩

theorem nodecap_lt (k : Sel) : Config.nodecap k < 4096 := by cases k <;> decide

/-- The tree that holds only its root keeps the invariants. -/
theorem empty_wf {cap : Nat} (h : 1 ≤ cap) : Tree.empty.wf cap := by
  refine ⟨⟨none, none, rfl⟩, h, by decide, ?_, ?_, ?_⟩
  · intro n b m hn hc
    have : n = 0 := BitVec.eq_of_toNat_eq (by simpa [Tree.empty] using hn)
    subst this
    have : (Tree.empty.node 0).child b = none := by cases b <;> rfl
    rw [this] at hc
    cases hc
  · intro m h0 hm
    simp only [Tree.empty, List.length_singleton] at hm
    omega
  · intro n n' b b' m hn _ hc _
    have : n = 0 := BitVec.eq_of_toNat_eq (by simpa [Tree.empty] using hn)
    subst this
    have : (Tree.empty.node 0).child b = none := by cases b <;> rfl
    rw [this] at hc
    cases hc

/-- Moving the cursor to an allocated node keeps the invariants. -/
theorem moveCursor_wf {cap : Nat} {t : Tree} (h : t.wf cap) {n : BitVec 12} (hn : n.toNat < t.nodes.length) :
    Tree.wf cap { t with cur := n } :=
  ⟨h.root, h.ncnt_le, hn, h.child_later, h.has_parent, h.one_parent⟩

theorem root_allocated {cap : Nat} {t : Tree} (h : t.wf cap) : (0 : BitVec 12).toNat < t.nodes.length := by
  have := h.cur_lt
  show 0 < _
  omega

theorem resetCursor_wf {cap : Nat} {t : Tree} (h : t.wf cap) : t.resetCursor.wf cap :=
  moveCursor_wf h (root_allocated h)

theorem advance_wf {cap : Nat} {t : Tree} (h : t.wf cap) (b : Bool) : (t.advance b).2.wf cap := by
  simp only [Tree.advance]
  split
  · exact h
  · rename_i c hc
    have := moveCursor_wf h (h.child_later _ _ _ h.cur_lt hc).2
    split <;> exact this

/-- Building a tree keeps the invariants, whether or not it succeeds. -/
theorem build_wf {cap : Nat} (hcap : cap < 4096) (es : List CodeEntry) (i : Nat) {t : Tree} (h : t.wf cap) :
    (Tree.build cap es i t).2.wf cap := by
  induction es generalizing i t with
  | nil => exact h
  | cons e rest ih =>
    simp only [Tree.build]
    split
    · exact ih _ h
    · split
      · exact h
      · split
        · rename_i t' hi
          exact ih _ (insertFrom_spec hcap _ _ _ h (root_allocated h) hi).1
        all_goals exact h

end Sys2Proof.Machine
end

