-- ==== Sys2Proof/Tests/Slice0.lean ====
section
/-! SUPPORT. The model's own tests: the checks of WellFormed, the decoding of every constructor, one or two steps of
each instruction with the values of the spec's examples, and for each statement a state that meets its hypotheses. -/

namespace Sys2Proof.Tests

open Sys2Proof.Machine

/-! ### Helpers -/

/-- A code decodes to this instruction. -/
def reads (c : Code) (i : Instr) : Bool :=
  match decode c with
  | .ok j => decide (j = i)
  | .error _ => false

/-- A code is refused with this reason. -/
def rejects (c : Code) (r : DecodeReject) : Bool :=
  match decode c with
  | .ok _ => false
  | .error r' => decide (r' = r)

/-- Every value of a list decodes to the instruction beside it. -/
def readsAll (kind : StreamKind) (l : List (BitVec 9 × Instr)) : Bool := l.all fun p => reads (.symbol kind p.1) p.2

/-- What a function reads in the next state, if there is one. -/
def after {α : Type} (o : Host.Outcome State Fault Refusal) (f : State → α) : Option α :=
  match o with
  | .next t => some (f t)
  | .fault _ => none
  | .refused _ => none

/-- Reset with these bytes to come. -/
def feed (bytes : List Byte) : State := { State.reset with input := bytes }

/-- Reset with one word waiting on the command port. -/
def port (w : Word) : State := { State.reset with cmds := [w] }

/-- The answer. -/
def ok (r : Word) : Option Response := some { status := .ok, result := r }

/-- The answer to a command that failed. -/
def no (e : Status) : Option Response := some { status := e, result := 0 }

/-! ### The well-formedness checks refuse (R104) -/

theorem test_refuses_sel_reserved : WellFormed (.cbld 3) = false ∧ WellFormed (.tclr 3) = false ∧
    WellFormed (.tbld 3) = false ∧ WellFormed (.trst 3) = false ∧ WellFormed (.tadv 3 true) = false := by decide

theorem test_refuses_index : WellFormed (.lwr 0 19 1) = false ∧ WellFormed (.lrd 1 288) = false ∧
    WellFormed (.crd 2 32) = false ∧ WellFormed (.lrd 3 0) = false ∧ WellFormed (.lrd 1 287) = true := by decide

theorem test_refuses_length : WellFormed (.lwr 0 0 8) = false ∧ WellFormed (.lwr 0 18 7) = true ∧
    WellFormed (.lwr 2 31 15) = true ∧ WellFormed (.lwr 3 0 0) = false := by decide

theorem test_refuses_bit_count : WellFormed (.brd false 33) = false ∧ WellFormed (.brd true 32) = true := by decide

theorem test_refuses_symbol : WellFormed (.tins 0 19 2) = false ∧ WellFormed (.tins 3 0 2) = false ∧
    WellFormed (.tins 2 31 2) = true := by decide

theorem test_refuses_marker : WellFormed (.tins 1 0 0) = false ∧ WellFormed (.tins 1 0 1) = false ∧
    WellFormed (.tins 0 0 0x100) = false ∧ WellFormed (.tins 0 0 0xFF) = true ∧
    WellFormed (.tins 1 0 0xFFFF) = true := by decide

theorem test_refuses_register : WellFormed (.rrd 0x17) = false ∧ WellFormed (.rrd 0x16) = true := by decide

/-! ### Words of the command map, written out from the formats and the examples (R92, R101, 95_test_vectors.md) -/

theorem test_decode_control : reads (.command 0x00000000) .nop = true ∧ reads (.command 0x10000000) .srst = true ∧
    reads (.command 0xE0000006) (.rrd 6) = true ∧ reads (.command 0xE00000FF) (.rrd 255) = true ∧
    reads (.command 0xF1234567) (.reservedOp 0x1234567) = true := by decide

theorem test_decode_reader_and_blocks : reads (.command 0x20000003) (.brd false 3) = true ∧
    reads (.command 0x20000047) (.brd true 7) = true ∧ reads (.command 0xC0000000) .dblk = true ∧
    reads (.command 0xD0000000) .dstr = true := by decide

theorem test_decode_arrays : reads (.command 0x34410001) (.lwr 1 65 1) = true ∧
    reads (.command 0x44410000) (.lrd 1 65) = true ∧ reads (.command 0x54000000) (.cbld 1) = true ∧
    reads (.command 0x64060000) (.crd 1 6) = true := by decide

theorem test_decode_trees : reads (.command 0x74000000) (.tclr 1) = true ∧
    reads (.command 0x84430005) (.tins 1 67 5) = true ∧ reads (.command 0x94000000) (.tbld 1) = true ∧
    reads (.command 0xA8000000) (.trst 2) = true ∧ reads (.command 0xB4000001) (.tadv 1 true) = true := by decide

theorem test_decode_reserved_bits : rejects (.command 0x00000001) .reservedBits = true ∧
    rejects (.command 0x20000080) .reservedBits = true ∧ rejects (.command 0x32000000) .reservedBits = true ∧
    rejects (.command 0x40000001) .reservedBits = true ∧ rejects (.command 0x82000002) .reservedBits = true ∧
    rejects (.command 0xB0000002) .reservedBits = true ∧ rejects (.command 0xE0000100) .reservedBits = true := by
  decide

/-! ### Values of the stream, one for each row (R124) -/

theorem test_decode_block_types : readsAll .btype
    [(0, .blockStored), (1, .blockFixed), (2, .blockDynamic), (3, .blockReserved)] = true := by decide

theorem test_decode_cl_symbols : readsAll .cl
    [(0x0, .clLen0), (0x1, .clLen1), (0x2, .clLen2), (0x3, .clLen3), (0x4, .clLen4), (0x5, .clLen5),
     (0x6, .clLen6), (0x7, .clLen7), (0x8, .clLen8), (0x9, .clLen9), (0xA, .clLen10), (0xB, .clLen11),
     (0xC, .clLen12), (0xD, .clLen13), (0xE, .clLen14), (0xF, .clLen15), (0x10, .clRep16), (0x11, .clRep17),
     (0x12, .clRep18)] = true := by decide

theorem test_decode_literals_0 : readsAll .ll
    [(0x0, .llLit0), (0x1, .llLit1), (0x2, .llLit2), (0x3, .llLit3), (0x4, .llLit4), (0x5, .llLit5),
     (0x6, .llLit6), (0x7, .llLit7), (0x8, .llLit8), (0x9, .llLit9), (0xA, .llLit10), (0xB, .llLit11),
     (0xC, .llLit12), (0xD, .llLit13), (0xE, .llLit14), (0xF, .llLit15), (0x10, .llLit16), (0x11, .llLit17),
     (0x12, .llLit18), (0x13, .llLit19), (0x14, .llLit20), (0x15, .llLit21), (0x16, .llLit22),
     (0x17, .llLit23), (0x18, .llLit24), (0x19, .llLit25), (0x1A, .llLit26), (0x1B, .llLit27),
     (0x1C, .llLit28), (0x1D, .llLit29), (0x1E, .llLit30), (0x1F, .llLit31), (0x20, .llLit32),
     (0x21, .llLit33), (0x22, .llLit34), (0x23, .llLit35), (0x24, .llLit36), (0x25, .llLit37),
     (0x26, .llLit38), (0x27, .llLit39), (0x28, .llLit40), (0x29, .llLit41), (0x2A, .llLit42),
     (0x2B, .llLit43), (0x2C, .llLit44), (0x2D, .llLit45), (0x2E, .llLit46), (0x2F, .llLit47),
     (0x30, .llLit48), (0x31, .llLit49), (0x32, .llLit50), (0x33, .llLit51), (0x34, .llLit52),
     (0x35, .llLit53), (0x36, .llLit54), (0x37, .llLit55), (0x38, .llLit56), (0x39, .llLit57),
     (0x3A, .llLit58), (0x3B, .llLit59), (0x3C, .llLit60), (0x3D, .llLit61), (0x3E, .llLit62), (0x3F, .llLit63)] = true := by decide

theorem test_decode_literals_1 : readsAll .ll
    [(0x40, .llLit64), (0x41, .llLit65), (0x42, .llLit66), (0x43, .llLit67), (0x44, .llLit68),
     (0x45, .llLit69), (0x46, .llLit70), (0x47, .llLit71), (0x48, .llLit72), (0x49, .llLit73),
     (0x4A, .llLit74), (0x4B, .llLit75), (0x4C, .llLit76), (0x4D, .llLit77), (0x4E, .llLit78),
     (0x4F, .llLit79), (0x50, .llLit80), (0x51, .llLit81), (0x52, .llLit82), (0x53, .llLit83),
     (0x54, .llLit84), (0x55, .llLit85), (0x56, .llLit86), (0x57, .llLit87), (0x58, .llLit88),
     (0x59, .llLit89), (0x5A, .llLit90), (0x5B, .llLit91), (0x5C, .llLit92), (0x5D, .llLit93),
     (0x5E, .llLit94), (0x5F, .llLit95), (0x60, .llLit96), (0x61, .llLit97), (0x62, .llLit98),
     (0x63, .llLit99), (0x64, .llLit100), (0x65, .llLit101), (0x66, .llLit102), (0x67, .llLit103),
     (0x68, .llLit104), (0x69, .llLit105), (0x6A, .llLit106), (0x6B, .llLit107), (0x6C, .llLit108),
     (0x6D, .llLit109), (0x6E, .llLit110), (0x6F, .llLit111), (0x70, .llLit112), (0x71, .llLit113),
     (0x72, .llLit114), (0x73, .llLit115), (0x74, .llLit116), (0x75, .llLit117), (0x76, .llLit118),
     (0x77, .llLit119), (0x78, .llLit120), (0x79, .llLit121), (0x7A, .llLit122), (0x7B, .llLit123),
     (0x7C, .llLit124), (0x7D, .llLit125), (0x7E, .llLit126), (0x7F, .llLit127)] = true := by decide

theorem test_decode_literals_2 : readsAll .ll
    [(0x80, .llLit128), (0x81, .llLit129), (0x82, .llLit130), (0x83, .llLit131), (0x84, .llLit132),
     (0x85, .llLit133), (0x86, .llLit134), (0x87, .llLit135), (0x88, .llLit136), (0x89, .llLit137),
     (0x8A, .llLit138), (0x8B, .llLit139), (0x8C, .llLit140), (0x8D, .llLit141), (0x8E, .llLit142),
     (0x8F, .llLit143), (0x90, .llLit144), (0x91, .llLit145), (0x92, .llLit146), (0x93, .llLit147),
     (0x94, .llLit148), (0x95, .llLit149), (0x96, .llLit150), (0x97, .llLit151), (0x98, .llLit152),
     (0x99, .llLit153), (0x9A, .llLit154), (0x9B, .llLit155), (0x9C, .llLit156), (0x9D, .llLit157),
     (0x9E, .llLit158), (0x9F, .llLit159), (0xA0, .llLit160), (0xA1, .llLit161), (0xA2, .llLit162),
     (0xA3, .llLit163), (0xA4, .llLit164), (0xA5, .llLit165), (0xA6, .llLit166), (0xA7, .llLit167),
     (0xA8, .llLit168), (0xA9, .llLit169), (0xAA, .llLit170), (0xAB, .llLit171), (0xAC, .llLit172),
     (0xAD, .llLit173), (0xAE, .llLit174), (0xAF, .llLit175), (0xB0, .llLit176), (0xB1, .llLit177),
     (0xB2, .llLit178), (0xB3, .llLit179), (0xB4, .llLit180), (0xB5, .llLit181), (0xB6, .llLit182),
     (0xB7, .llLit183), (0xB8, .llLit184), (0xB9, .llLit185), (0xBA, .llLit186), (0xBB, .llLit187),
     (0xBC, .llLit188), (0xBD, .llLit189), (0xBE, .llLit190), (0xBF, .llLit191)] = true := by decide

theorem test_decode_literals_3 : readsAll .ll
    [(0xC0, .llLit192), (0xC1, .llLit193), (0xC2, .llLit194), (0xC3, .llLit195), (0xC4, .llLit196),
     (0xC5, .llLit197), (0xC6, .llLit198), (0xC7, .llLit199), (0xC8, .llLit200), (0xC9, .llLit201),
     (0xCA, .llLit202), (0xCB, .llLit203), (0xCC, .llLit204), (0xCD, .llLit205), (0xCE, .llLit206),
     (0xCF, .llLit207), (0xD0, .llLit208), (0xD1, .llLit209), (0xD2, .llLit210), (0xD3, .llLit211),
     (0xD4, .llLit212), (0xD5, .llLit213), (0xD6, .llLit214), (0xD7, .llLit215), (0xD8, .llLit216),
     (0xD9, .llLit217), (0xDA, .llLit218), (0xDB, .llLit219), (0xDC, .llLit220), (0xDD, .llLit221),
     (0xDE, .llLit222), (0xDF, .llLit223), (0xE0, .llLit224), (0xE1, .llLit225), (0xE2, .llLit226),
     (0xE3, .llLit227), (0xE4, .llLit228), (0xE5, .llLit229), (0xE6, .llLit230), (0xE7, .llLit231),
     (0xE8, .llLit232), (0xE9, .llLit233), (0xEA, .llLit234), (0xEB, .llLit235), (0xEC, .llLit236),
     (0xED, .llLit237), (0xEE, .llLit238), (0xEF, .llLit239), (0xF0, .llLit240), (0xF1, .llLit241),
     (0xF2, .llLit242), (0xF3, .llLit243), (0xF4, .llLit244), (0xF5, .llLit245), (0xF6, .llLit246),
     (0xF7, .llLit247), (0xF8, .llLit248), (0xF9, .llLit249), (0xFA, .llLit250), (0xFB, .llLit251),
     (0xFC, .llLit252), (0xFD, .llLit253), (0xFE, .llLit254), (0xFF, .llLit255)] = true := by decide

theorem test_decode_end_and_lengths : readsAll .ll
    [(0x100, .llEob), (0x101, .llLen257), (0x102, .llLen258), (0x103, .llLen259), (0x104, .llLen260),
     (0x105, .llLen261), (0x106, .llLen262), (0x107, .llLen263), (0x108, .llLen264), (0x109, .llLen265),
     (0x10A, .llLen266), (0x10B, .llLen267), (0x10C, .llLen268), (0x10D, .llLen269), (0x10E, .llLen270),
     (0x10F, .llLen271), (0x110, .llLen272), (0x111, .llLen273), (0x112, .llLen274), (0x113, .llLen275),
     (0x114, .llLen276), (0x115, .llLen277), (0x116, .llLen278), (0x117, .llLen279), (0x118, .llLen280),
     (0x119, .llLen281), (0x11A, .llLen282), (0x11B, .llLen283), (0x11C, .llLen284), (0x11D, .llLen285),
     (0x11E, .llRes286), (0x11F, .llRes287)] = true := by decide

theorem test_decode_distances : readsAll .dist
    [(0x0, .distD0), (0x1, .distD1), (0x2, .distD2), (0x3, .distD3), (0x4, .distD4), (0x5, .distD5),
     (0x6, .distD6), (0x7, .distD7), (0x8, .distD8), (0x9, .distD9), (0xA, .distD10), (0xB, .distD11),
     (0xC, .distD12), (0xD, .distD13), (0xE, .distD14), (0xF, .distD15), (0x10, .distD16), (0x11, .distD17),
     (0x12, .distD18), (0x13, .distD19), (0x14, .distD20), (0x15, .distD21), (0x16, .distD22),
     (0x17, .distD23), (0x18, .distD24), (0x19, .distD25), (0x1A, .distD26), (0x1B, .distD27),
     (0x1C, .distD28), (0x1D, .distD29), (0x1E, .distRes30), (0x1F, .distRes31)] = true := by decide

theorem test_decode_not_a_symbol : rejects (.symbol .cl 19) (.notASymbol .cl) = true ∧
    rejects (.symbol .ll 288) (.notASymbol .ll) = true := by decide

theorem test_decode_table_word : decodeTableWord 32 0x34410001 = some (.lwr 1 65 1) ∧
    decodeTableWord 16 0x105 = some .llLen261 ∧ decodeTableWord 8 0x1F = some .distRes31 := by decide

/-! ### One step of each command -/

/-- R261. -/
theorem test_nop_in_faulted : after (exec .nop { State.reset with sstate := .faulted })
    (fun t => (t.resp, t.sstate)) = some (ok 0, .faulted) := by decide

/-- R262: the buffered bits are discarded and FAULTED is left. -/
theorem test_srst_leaves_faulted : after (exec .srst { feed [7] with
      sstate := .faulted, errCode := 2, brCnt := 6, brAcc := 3, bitpos := 10 })
    (fun t => (t.sstate, t.errCode, t.brCnt, t.bitpos, t.input)) = some (.ready, 0, 0, 0, [7]) := by decide

/-- R264. -/
theorem test_rrd_reserved : after (exec (.rrd 0x17) State.reset) (fun t => t.resp) = some (no .illegalOperand) := by
  decide

/-- R47: the upper half of a 64-bit register. -/
theorem test_rrd_bitpos_hi : after (exec (.rrd 7) { State.reset with bitpos := 0x1234567890ABCDEF })
    (fun t => t.resp) = some (ok 0x12345678) := by decide

/-- R151, first line. -/
theorem test_brd_consumes : after (exec (.brd false 3) (feed [0xA5, 0x0F]))
    (fun t => (t.resp, t.brAcc, t.brCnt, t.bitpos, t.input)) = some (ok 5, 0x14, 5, 3, [0x0F]) := by decide

/-- R151, second line: a peek that fetches. -/
theorem test_brd_peek_fetches : after (exec (.brd true 7) { feed [0x0F] with brAcc := 0x14, brCnt := 5, bitpos := 3 })
    (fun t => (t.resp, t.brAcc, t.brCnt, t.bitpos)) = some (ok 0x74, 0x1F4, 13, 3) := by decide

/-- R161, R36: the CL entries are three bits wide. -/
theorem test_lwr_cl : after (exec (.lwr 0 18 7) State.reset) (fun t => (t.lenAt .cl 18, t.lenAt .cl 17)) =
    some (7, 0) := by decide

/-- R162. -/
theorem test_lrd : after (exec (.lrd 2 31) (State.reset.setLen .dist 31 9)) (fun t => t.resp) = some (ok 9) := by
  decide +kernel

/-- R168: lengths 1, 1, 1 in CL give the third symbol the code 2, too large for its length. -/
theorem test_cbld_over_subscribed : after (exec (.cbld 0)
      (((State.reset.setLen .cl 0 1).setLen .cl 1 1).setLen .cl 2 1))
    (fun t => (t.codeAt .cl 0, t.codeAt .cl 1, t.codeAt .cl 2, t.codeAt .cl 3)) =
    some (⟨1, 0⟩, ⟨1, 1⟩, ⟨1, 2⟩, ⟨0, 0⟩) := by decide +kernel

/-- R163, R164: the worked example's symbols 5 to 7 (lengths 2, 4, 4 after five of length 3). -/
theorem test_crd_after_cbld : after (exec (.cbld 2)
      ((((((((State.reset.setLen .dist 0 3).setLen .dist 1 3).setLen .dist 2 3).setLen .dist 3 3).setLen .dist 4 3).setLen
        .dist 5 2).setLen .dist 6 4).setLen .dist 7 4))
    (fun t => (after (exec (.crd 2 6) t) (fun u => u.resp), t.codeAt .dist 5, t.codeAt .dist 0)) =
    some (some (ok 0x0400000E), ⟨2, 0⟩, ⟨3, 2⟩) := by decide +kernel

/-- R181. -/
theorem test_tclr : after (exec (.tclr 1) { State.reset with treeLL := ⟨[.internal (some 1) none, .leaf 65], 1⟩ })
    (fun t => t.treeLL) = some ⟨[.internal none none], 0⟩ := by decide

/-- R185, the worked example: Inserted. -/
theorem test_tins_inserted : after (exec (.tins 1 65 2) State.reset) (fun t => (t.resp, t.treeLL)) =
    some (ok 0, ⟨[.internal (some 1) none, .leaf 65], 0⟩) := by decide

/-- R185, the worked example: AlreadyPresent, then PrefixViolation. -/
theorem test_tins_present_and_violation :
    after (exec (.tins 1 66 2) { State.reset with treeLL := ⟨[.internal (some 1) none, .leaf 65], 0⟩ })
      (fun t => t.resp) = some (ok 1) ∧
    after (exec (.tins 1 67 5) { State.reset with treeLL := ⟨[.internal (some 1) none, .leaf 65], 0⟩ })
      (fun t => t.resp) = some (ok 2) := by decide

/-- R187: an over-subscribed entry stops the build, and the symbol before it stays inserted. -/
theorem test_tbld_partly_built : after (exec (.tbld 2)
      { State.reset with codeDIST := (State.reset.codeDIST.set 0 ⟨1, 0⟩).set 1 ⟨1, 2⟩ })
    (fun t => (t.resp, t.treeDIST.nodes, t.errCode)) =
    some (no .prefixCodeViolation, [.internal (some 1) none, .leaf 0], 0) := by decide +kernel

/-- R189. -/
theorem test_trst : after (exec (.trst 2) { State.reset with treeDIST := ⟨[.internal none (some 1), .leaf 3], 1⟩ })
    (fun t => t.treeDIST) = some ⟨[.internal none (some 1), .leaf 3], 0⟩ := by decide

/-- R190, R191: the bit chooses the child, and a leaf answers its symbol. -/
theorem test_tadv_symbol : after (exec (.tadv 2 true)
      { State.reset with treeDIST := ⟨[.internal none (some 1), .leaf 3], 0⟩ })
    (fun t => (t.resp, t.treeDIST.cur)) = some (ok 0x40000003, 1) := by decide

/-- R190: at a leaf the advance is Invalid. -/
theorem test_tadv_at_leaf : after (exec (.tadv 2 true)
      { State.reset with treeDIST := ⟨[.internal none (some 1), .leaf 3], 1⟩ })
    (fun t => (t.resp, t.treeDIST.cur)) = some (ok 0x80000000, 1) := by decide

/-- R212, the worked example (95_test_vectors.md S2). -/
theorem test_dblk_s2 : after (exec .dblk
      (feed [0x0d, 0xc0, 0x81, 0x00, 0x00, 0x00, 0x00, 0x80, 0x20, 0xb6, 0xfc, 0xa5, 0x3e, 0x0b]))
    (fun t => (t.resp, t.output, t.sstate, t.bitpos)) =
    some (ok 0x0001C00D, [0x41, 0x41, 0x41, 0x41], .done, 109) := by decide +kernel

/-- R214: three header bits and no more (95_test_vectors.md D3: byte 0x1F is BTYPE 3). -/
theorem test_dblk_rejects : after (exec .dblk (feed [0x1F]))
    (fun t => (t.resp, t.errBitpos, t.errPhase, t.bhdr, t.sstate)) =
    some (no .unsupportedBlockType, 3, 0, 7, .faulted) := by decide

/-- R237 (95_test_vectors.md S1). -/
theorem test_dstr_s1 : after (exec .dstr
      (feed [0x05, 0xc0, 0x81, 0x08, 0x00, 0x00, 0x00, 0x00, 0x20, 0xb6, 0xfd, 0xa5, 0x0e, 0x02]))
    (fun t => (t.resp, t.output, t.sstate, t.bitpos, t.brCnt)) =
    some (ok 1, [0x41, 0x41, 0x41, 0x41], .done, 106, 6) := by decide +kernel

/-- R237: refused after the last block. -/
theorem test_dstr_done : after (exec .dstr { State.reset with sstate := .done }) (fun t => t.resp) =
    some (no .streamFinished) := by decide

/-- R286: the reserved opcode, from the command port. -/
theorem test_reserved_opcode : after (step (port 0xF0000001)) (fun t => (t.resp, t.cmds)) =
    some (no .illegalCommand, []) := by decide

/-! ### One step of the stream rows -/

/-- R214. -/
theorem test_block_types_reject : [Instr.blockStored, .blockFixed, .blockReserved].map
      (fun i => after (exec i State.reset) (fun t => (t.resp, t.errCode))) =
    List.replicate 3 (some (no .unsupportedBlockType, 3)) := by decide

/-- R215: HLIT = 1, HDIST = 2, HCLEN = 14 in 14 bits. -/
theorem test_block_dynamic : after (exec .blockDynamic (feed [0x41, 0x38])) (fun t => (t.bhdr, t.loc.numLL, t.loc.numDist,
      t.loc.numCL, t.bitpos)) = some (0x1C208, 258, 3, 18, 14) := by decide

/-- R219, R116: the entry after the last LL length is the first DIST length. -/
theorem test_cl_length_crosses : after (exec .clLen15
      { State.reset with loc := { Locals.idle with numLL := 257, numDist := 1, k := 257 } })
    (fun t => (t.lenDIST[0], t.loc.k, t.loc.lastLength)) = some (15, 258, 15) := by decide +kernel

/-- R220: 3 + 2 copies of lastLength. -/
theorem test_cl_repeat_16 : after (exec .clRep16
      { feed [0x02] with loc := { Locals.idle with numLL := 257, numDist := 1, k := 1, lastLength := 6 } })
    (fun t => (t.lenLL[5], t.lenLL[6], t.loc.k, t.loc.lastLength)) = some (6, 0, 6, 6) := by decide +kernel

/-- R221: seven zeros more than three, and lastLength is 0. -/
theorem test_cl_repeat_17 : after (exec .clRep17
      { feed [0x07] with loc := { Locals.idle with numLL := 257, numDist := 1, k := 1, lastLength := 6 } })
    (fun t => (t.loc.k, t.loc.lastLength, t.bitpos)) = some (11, 0, 3) := by decide

/-- R222, R223: 138 zeros do not fit, and nothing is written. -/
theorem test_cl_repeat_18_overruns : after (exec .clRep18
      { feed [0x7F] with loc := { Locals.idle with numLL := 257, numDist := 1, k := 121 } })
    (fun t => (t.resp, t.errBitpos)) = some (no .codeLengthOverrun, 7) := by decide

/-- R227, R234: WPTR wraps, WFILL saturates. -/
theorem test_literal_wraps : after (exec .llLit65 { State.reset with wptr := 32767, wfill := 32768 })
    (fun t => (t.win, t.wptr, t.wfill, t.output, t.outcnt)) =
    some ([(32767, 0x41)], 0, 32768, [0x41], 1) := by decide

/-- R236. -/
theorem test_end_of_block : after (exec .llEob { State.reset with bhdr := 5, blkcnt := 0xFFFFFFFF })
    (fun t => (t.sstate, t.blkcnt, t.phase)) = some (.done, 0, .blockDone) := by decide

/-- R229, R118: code 284 with extra value 31 gives 258, the same as code 285 without extra bits. -/
theorem test_length_codes : after (exec .llLen284 (feed [0x1F])) (fun t => t.loc.length) = some 258 ∧
    after (exec .llLen285 (feed [])) (fun t => t.loc.length) = some 258 ∧
    after (exec .llLen265 (feed [1])) (fun t => (t.loc.length, t.bitpos)) = some (12, 1) := by decide

/-- R230, R231. -/
theorem test_no_meaning : [Instr.llRes286, .llRes287, .distRes30, .distRes31].map
      (fun i => after (exec i State.reset) (fun t => t.errCode)) = List.replicate 4 (some 6) := by decide

/-- R235: distance 2, length 5, an overlapping copy. -/
theorem test_copy_overlaps : after (exec .distD1 { State.reset with
      win := [(0, 1), (1, 2)], wptr := 2, wfill := 2, output := [1, 2], loc := { Locals.idle with length := 5 } })
    (fun t => (t.output, t.wfill)) = some ([1, 2, 1, 2, 1, 2, 1], 7) := by decide

/-- R232, R233, R119: distance 24577 + 8191 = 32768 is the farthest; one byte too few is out of range. -/
theorem test_farthest_distance : after (exec .distD29 { feed [0xFF, 0x1F] with wfill := 32767 })
      (fun t => (t.errCode, t.errBitpos)) = some (7, 13) ∧
    after (exec .distD29 { feed [0xFF, 0x1F] with wfill := 32768 }) (fun t => (t.errCode, t.bitpos)) =
      some (0, 13) := by decide

/-- R224: a CL value above 18, were one decoded. -/
theorem test_cl_above_18 : after (step { State.reset with staged := some { kind := .cl, value := 19 } })
    (fun t => (t.errCode, t.staged)) = some (4, none) := by decide

/-- R281: the numbers of the status codes. -/
theorem test_status_codes : [Status.ok, .invalidMagicOrMethod, .unexpectedEndOfInput, .unsupportedBlockType,
      .invalidCodeLengthSymbol, .prefixCodeViolation, .invalidSymbolCode, .backReferenceOutOfRange, .codeLengthOverrun,
      .illegalCommand, .illegalOperand, .treeCapacityExceeded, .sessionFaulted, .streamFinished].map Status.code =
    [0, 1, 2, 3, 4, 5, 6, 7, 8, 9, 10, 11, 12, 13] := by decide

/-! ### For each statement with hypotheses, a state and operands that meet them, at the edges of its clauses -/

/-- A stream state used below: two bytes to come and one bit buffered. -/
def oneBuffered : State := { feed [0xA5, 0x0F] with brAcc := 1, brCnt := 1 }

/-- A tree with the codes "0" for 65, "10" for 256. -/
def smallTree : Tree :=
  { nodes := [.internal (some 1) (some 2), .leaf 65, .internal (some 3) none, .leaf 256], cur := 0 }

/-- Codes inserted one after another where they fit. -/
def fill (cap l : Nat) : List Nat → Tree → Tree
  | [], t => t
  | c :: rest, t =>
    match t.insert cap l c 0 with
    | .inserted t' => fill cap l rest t'
    | .alreadyPresent => fill cap l rest t
    | .prefixViolation => fill cap l rest t
    | .capacityExceeded => fill cap l rest t

theorem fill_wf {cap l : Nat} (hcap : cap < 4096) (cs : List Nat) {t : Tree} (h : t.wf cap) : (fill cap l cs t).wf cap := by
  induction cs generalizing t with
  | nil => exact h
  | cons c rest ih =>
    simp only [fill]
    split
    · rename_i t' hi
      exact ih (insertFrom_spec hcap c 0 l h (root_allocated h) hi).1
    · exact ih h
    · exact ih h
    · exact ih h

theorem smallTree_wf : smallTree.wf (Config.nodecap .ll) := by
  have e := empty_wf (cap := Config.nodecap .ll) (by decide)
  have a : Tree.insertFrom (Config.nodecap .ll) 0 65 1 0 Tree.empty =
      .inserted ⟨[.internal (some 1) none, .leaf 65], 0⟩ := by decide
  have w := (insertFrom_spec (nodecap_lt .ll) 0 65 1 e (root_allocated e) a).1
  have b : Tree.insertFrom (Config.nodecap .ll) 2 256 2 0 ⟨[.internal (some 1) none, .leaf 65], 0⟩ =
      .inserted smallTree := by decide
  exact (insertFrom_spec (nodecap_lt .ll) 2 256 2 w (root_allocated w) b).1

/-- A CL arena with no room for one more node. -/
def fullTree : Tree := fill 88 7 (List.range 128) Tree.empty

theorem fullTree_wf : fullTree.wf (Config.nodecap .cl) := fill_wf (by decide) _ (empty_wf (by decide))

/-- The worked block of R212, and the same block not final. -/
def blockS2 : State := feed [0x0d, 0xc0, 0x81, 0x00, 0x00, 0x00, 0x00, 0x80, 0x20, 0xb6, 0xfc, 0xa5, 0x3e, 0x0b]
def blockS2NotFinal : State :=
  feed [0x0c, 0xc0, 0x81, 0x00, 0x00, 0x00, 0x00, 0x80, 0x20, 0xb6, 0xfc, 0xa5, 0x3e, 0x0b]

/-- A state whose window holds one byte of output. -/
def oneByteOut : State :=
  { feed [0xFF, 0xFF] with
    win := [(0, 0x41)], wptr := 1, wfill := 1, outcnt := 1, output := [0x41]
    loc := { Locals.idle with length := 3 } }

theorem oneByteOut_windowOk : oneByteOut.windowOk := by
  refine ⟨⟨by decide, by decide⟩, by decide, by decide, ?_⟩
  intro d h1 h2
  have : d = 1 := by
    have : oneByteOut.wfill.toNat = 1 := rfl
    omega
  subst this
  decide

theorem next_of_after {α : Type} {o : Host.Outcome State Fault Refusal} {f : State → α} {a : α}
    (h : after o f = some a) : ∃ t, o = .next t ∧ f t = a := by
  cases o <;> simp_all [after]

theorem witness_OpcodeMapSelectsCommand : (0xFFFFFFFF : Word) &&& 0xF0000000 = 0xF0000000 ∧
    (0x8DFFFFFF : Word) &&& 0xF2000000 = 0x80000000 ∧ (0x3DFF000F : Word) &&& 0xF200FFF0 = 0x30000000 ∧
    (0x2000007F : Word) &&& 0xFFFFFF80 = 0x20000000 := by decide

theorem witness_DecodeUndoesEncode : reads (.command 0x8DFFFFFF) (.tins 3 511 0xFFFF) = true ∧
    reads (.symbol .ll 287) .llRes287 = true ∧ reads (.symbol .cl 18) .clRep18 = true ∧
    reads (.symbol .dist 31) .distRes31 = true ∧ reads (.symbol .btype 3) .blockReserved = true ∧
    (31 : BitVec 9).toNat < 32 ∧ (3 : BitVec 9).toNat < 4 := by decide

theorem witness_ReservedBitRefused : (port 0x00000001).staged = none ∧ (port 0x00000001).cmds = [0x00000001] ∧
    ((0x00000000, 0xFFFFFFFF) : Word × Word) ∈ opcodeMap ∧
    (0x00000001 : Word).extractLsb' 28 4 = (0x00000000 : Word).extractLsb' 28 4 ∧
    (0xFFFFFFFF : Word).getLsbD 0 = true ∧ (0x00000001 : Word).getLsbD 0 = true ∧
    ((0x80000000, 0xF2000000) : Word × Word) ∈ opcodeMap ∧ (0xF2000000 : Word).getLsbD 25 = true ∧
    (0x82000002 : Word).getLsbD 25 = true := by decide

theorem witness_ReservedOpcodeIllegalCommand : (port 0xF0000000).staged = none ∧
    (port 0xF0000000).cmds = [0xF0000000] ∧ (0xF0000000 : Word).extractLsb' 28 4 = 0xF := by decide

theorem witness_OperandOutOfRangeRefused : Config.selOf 0 = some .cl ∧ Config.asize .cl ≤ (19 : BitVec 9).toNat ∧
    Config.lmax .cl < (8 : BitVec 4).toNat ∧ 32 < (33 : BitVec 6).toNat ∧ (1 : BitVec 16).toNat < 2 ∧
    (0x100 : BitVec 16).toNat = 2 ^ 8 + 0 ∧ Config.lmax .cl < 8 ∧ 0x16 < (0x17 : BitVec 8).toNat := by decide

theorem witness_StepRunsDecodedInstruction : (port 0).staged = none ∧ (port 0).cmds = [0] ∧
    reads (.command 0) .nop = true ∧ reads (.symbol .ll 65) .llLit65 = true ∧
    State.reset.staged = none ∧ State.reset.cmds = [] := by decide

theorem witness_ResetValuesOfEveryRegister : (∃ t, exec .srst oneBuffered = .next t) ∧
    (feed [] = State.reset) := ⟨⟨_, rfl⟩, rfl⟩

theorem witness_ReadBitsServesStream : oneBuffered.readerOk ∧ 17 ≤ oneBuffered.bitsLeft ∧ 0 ≤ oneBuffered.bitsLeft :=
  ⟨⟨by decide, by decide⟩, by decide, by decide⟩

theorem witness_BrdReadsBits : oneBuffered.sstate ≠ .faulted ∧ oneBuffered.readerOk ∧
    (17 : BitVec 6).toNat ≤ oneBuffered.bitsLeft ∧ ({ oneBuffered with sstate := .done } : State).sstate ≠ .faulted :=
  ⟨by decide, ⟨by decide, by decide⟩, by decide, by decide⟩

theorem witness_ReadBitsEndOfInput : oneBuffered.readerOk ∧ oneBuffered.bitsLeft < 18 ∧
    oneBuffered.sstate ≠ .faulted := ⟨⟨by decide, by decide⟩, by decide, by decide⟩

theorem witness_ZeroBitReadIsNothing : State.reset.sstate ≠ .faulted := by decide

theorem witness_SplitReadsAgree : oneBuffered.readerOk ∧ (∀ n ∈ [3, 0, 14], n ≤ 32) ∧
    [3, 0, 14].sum ≤ oneBuffered.bitsLeft ∧ 17 ≤ oneBuffered.bitsLeft :=
  ⟨⟨by decide, by decide⟩, by decide, by decide, by decide⟩

theorem witness_ConsumingReadLeavesUnderByte : ∃ t, readBits 3 false (feed [0xA5]) = .ok 5 t ∧
    t.input ≠ (feed [0xA5]).input ∧ (feed [0xA5]).readerOk :=
  ⟨_, rfl, by decide, by decide, by decide⟩

theorem witness_BitposCountsFetchedBits : (Instr.brd false 3 ≠ .srst) ∧
    State.reset.bitpos = BitVec.ofNat 64 (8 * 0) - State.reset.brCnt.setWidth 64 ∧
    (∃ t, exec (.brd false 3) (feed [0xA5]) = .next t) ∧ (∃ t, exec .srst (feed [0xA5]) = .next t) :=
  ⟨by decide, by decide, ⟨_, rfl⟩, ⟨_, rfl⟩⟩

theorem witness_LwrWritesOneLength : Config.selOf 0 = some .cl ∧ (18 : BitVec 9).toNat < Config.asize .cl ∧
    (7 : BitVec 4).toNat ≤ Config.lmax .cl ∧ Config.selOf 1 = some .ll ∧ (287 : BitVec 9).toNat < Config.asize .ll ∧
    (15 : BitVec 4).toNat ≤ Config.lmax .ll ∧ Config.selOf 2 = some .dist := by decide

theorem witness_LrdCrdReadOneEntry : Config.selOf 2 = some .dist ∧ (31 : BitVec 9).toNat < Config.asize .dist := by
  decide

theorem witness_CbldAssignsCanonicalCodes : Config.selOf 0 = some .cl ∧
    (State.reset.setLen .cl 4 7).lenAt .cl 4 ≠ 0 ∧ State.reset.lenAt .cl 18 = 0 := by decide

/-- CL lengths 1, 2, 2: the Kraft sum is exactly 1. -/
def kraftOne : State := ((State.reset.setLen .cl 0 1).setLen .cl 1 2).setLen .cl 2 2

/-- CL lengths 1, 1, 1: the Kraft sum is more than 1. -/
def kraftMore : State := ((State.reset.setLen .cl 0 1).setLen .cl 1 1).setLen .cl 2 1

theorem witness_CodesAscendWithSymbol : (∃ t, exec (.cbld 0) kraftOne = .next t) ∧ kraftOne.lenAt .cl 1 ≠ 0 ∧
    kraftOne.lenAt .cl 1 = kraftOne.lenAt .cl 2 ∧ kraftOne.lenAt .cl 0 ≠ 0 ∧
    (kraftOne.lenAt .cl 0).toNat + 1 = (kraftOne.lenAt .cl 1).toNat :=
  ⟨⟨_, rfl⟩, by decide, by decide, by decide, by decide⟩

theorem witness_OverSubscribedIffKraftBroken : Config.selOf 0 = some .cl ∧
    after (exec (.cbld 0) kraftOne) (fun t => ((t.codeAt .cl 0).clen, (t.codeAt .cl 1).clen)) = some (1, 2) ∧
    kraftSum (kraftOne.lens .cl) = 2 ^ 15 ∧ (∃ t, exec (.cbld 0) kraftMore = .next t) ∧
    2 ^ 15 < kraftSum (kraftMore.lens .cl) :=
  ⟨by decide, by decide +kernel, by decide +kernel, ⟨_, rfl⟩, by decide +kernel⟩

theorem witness_TableLoadSucceedsIffKraftHolds :
    after (exec (.cbld 0) kraftOne) (fun t => (decide (kraftSum (t.lens .cl) ≤ 2 ^ 15), (t.codeAt .cl 2).clen)) =
      some (true, 2) ∧
    after (exec (.cbld 0) kraftMore) (fun t => decide (2 ^ 15 < kraftSum (t.lens .cl))) = some true :=
  ⟨by decide +kernel, by decide +kernel⟩

/-- CL codes "0" for 0, "10" for 1 and, for the last symbol, a length and a value to choose. -/
def lastCode (clen : BitVec 4) (cval : BitVec 24) : State :=
  { State.reset with codeCL := ((State.reset.codeCL.set 0 ⟨1, 0⟩).set 1 ⟨2, 2⟩).set 18 ⟨clen, cval⟩ }

/-- "11" fits beside the others, with no symbol failing.  At the last symbol each of "0" (the same code), "00" and
"1" (one begins with the other) and a value of 2^CLEN fails, and no symbol below it does. -/
theorem witness_TbldRebuildsTree : Config.selOf 0 = some .cl ∧ (lastCode 2 3).codesOk ∧
    (∀ i, i < Config.asize .cl → ¬ (lastCode 2 3).codeFails .cl i) ∧ 18 < Config.asize .cl ∧
    (lastCode 1 0).codesOk ∧ (lastCode 7 128).codesOk ∧ (lastCode 1 0).codeFails .cl 18 ∧ (lastCode 2 0).codeFails .cl 18 ∧
    (lastCode 1 1).codeFails .cl 18 ∧ (lastCode 7 128).codeFails .cl 18 ∧
    (∀ i, i < 18 → ¬ (lastCode 1 0).codeFails .cl i) ∧ (∀ i, i < 18 → ¬ (lastCode 7 128).codeFails .cl i) := by
  refine ⟨by decide, fun k => ?_, ?_, by decide, fun k => ?_, fun k => ?_, ?_⟩
  · cases k <;> decide +kernel
  · simp only [State.codeFails]
    decide +kernel
  · cases k <;> decide +kernel
  · cases k <;> decide +kernel
  · simp only [State.codeFails]
    decide +kernel

theorem witness_BuildNeverExceedsCapacity : ∀ e ∈ kraftOne.codes .cl, e.clen.toNat ≤ Config.lmax .cl := by
  decide +kernel

theorem witness_TclrTrstResetTree : Config.selOf 0 = some .cl ∧ Config.selOf 1 = some .ll := by decide

theorem witness_TinsOutcomes_small : Config.selOf 1 = some .ll ∧ (287 : BitVec 9).toNat < Config.asize .ll ∧
    smallTree.wf (Config.nodecap .ll) ∧
    -- the code "0" leads to a leaf
    (2 : BitVec 16).toNat = 2 ^ 1 + 0 ∧ smallTree.walk 0 (codeBits 1 0) = some 1 ∧ smallTree.leafAt 1 65 ∧
    -- the code "1" leads to an internal node
    (3 : BitVec 16).toNat = 2 ^ 1 + 1 ∧ smallTree.walk 0 (codeBits 1 1) = some 2 ∧
    smallTree.node 2 = .internal (some 3) none ∧
    -- the code "01" meets a leaf after one bit
    (5 : BitVec 16).toNat = 2 ^ 2 + 1 ∧ smallTree.walk 0 ((codeBits 2 1).take 1) = some 1 ∧
    -- the code "11" has no child after one bit, and one node fits
    (7 : BitVec 16).toNat = 2 ^ 2 + 3 ∧ smallTree.walk 0 ((codeBits 2 3).take 1) = some 2 ∧
    (smallTree.node 2).child (Nat.testBit 3 (2 - 1 - 1)) = none ∧
    smallTree.nodes.length + (2 - 1) ≤ Config.nodecap .ll ∧
    -- a code of the longest length with every bit set
    (0xFFFF : BitVec 16).toNat = 2 ^ 15 + 32767 ∧ 15 ≤ Config.lmax .ll :=
  ⟨by decide, by decide, smallTree_wf, by decide, by decide, rfl, by decide, by decide,
    by decide, by decide, by decide, by decide, by decide, by decide, by decide, by decide, by decide⟩

theorem witness_TinsOutcomes_full : fullTree.wf (Config.nodecap .cl) ∧ (1 : Nat) ≤ 7 ∧ 127 < 2 ^ 7 ∧
    (0xFF : BitVec 16).toNat = 2 ^ 7 + 127 ∧
    (match fullTree.walk 0 ((codeBits 7 127).take 0) with | some n => decide (n = 0) | none => false) = true ∧
    ((fullTree.node 0).child (Nat.testBit 127 (7 - 1 - 0))) = none ∧
    Config.nodecap .cl < fullTree.nodes.length + (7 - 0) :=
  ⟨fullTree_wf, by decide, by decide, by decide, by decide +kernel, by decide +kernel, by decide +kernel⟩

theorem witness_TadvMovesCursor : Config.selOf 1 = some .ll ∧ smallTree.node 1 = .leaf 65 ∧
    smallTree.node 0 = .internal (some 1) (some 2) ∧ smallTree.node 2 = .internal (some 3) none := by decide

theorem witness_DecodeSymbolFollowsCode : (feed [0x01]).readerOk ∧ smallTree.wf (Config.nodecap .ll) ∧
    smallTree.codeOf [true, false] 256 ∧
    (feed [0x01]).streamBits = [true, false] ++ [false, false, false, false, false, false] ∧
    smallTree.walk 0 [true] = some 2 ∧ (smallTree.node 2).child true = none ∧
    (feed [0x03]).streamBits = [true] ++ true :: [false, false, false, false, false, false] ∧
    ({ State.reset with brCnt := 1, brAcc := 1 } : State).streamBits = [true] :=
  ⟨⟨by decide, by decide⟩, smallTree_wf, ⟨3, by decide, rfl⟩, by decide, by decide,
    by decide, by decide, by decide⟩

theorem witness_BlockTypeRejected : State.reset.sstate = .ready ∧
    (feed [0x01]).streamBits = true :: false :: false :: [false, false, false, false, false] ∧
    bitsValue [false, false] ≠ 2 ∧ bitsValue [true, false] ≠ 2 ∧ bitsValue [true, true] ≠ 2 ∧ (feed [0x01]).readerOk :=
  ⟨by decide, by decide, by decide, by decide, by decide, by decide, by decide⟩

theorem witness_DynamicHeaderReadsCounts : 14 ≤ (feed [0x41, 0x38]).bitsLeft ∧ (feed [0x41]).bitsLeft < 14 ∧
    (feed [0x41]).readerOk := ⟨by decide, by decide, by decide, by decide⟩

theorem witness_LengthSymbolPutsItself : encode .clLen0 = .symbol .cl 0 ∧ encode .clLen15 = .symbol .cl 15 ∧
    (15 : BitVec 9).toNat ≤ 15 := by decide

/-- One place short of a total of 258, and ten places short. -/
def atLength (k : Nat) (bytes : List Byte) : State :=
  { feed bytes with loc := { Locals.idle with numLL := 257, numDist := 1, k := k, lastLength := 6 } }

theorem witness_RepeatSymbolsPutRuns : (atLength 255 [0]).readerOk ∧ 2 ≤ (atLength 255 [0]).bitsLeft ∧
    (atLength 255 [0]).loc.k + (3 + bitsValue ((atLength 255 [0]).streamBits.take 2)) ≤ 257 + 1 ∧
    257 + 1 < (atLength 256 [0]).loc.k + (3 + bitsValue ((atLength 256 [0]).streamBits.take 3)) ∧
    (atLength 120 [0x7F]).loc.k + (11 + bitsValue ((atLength 120 [0x7F]).streamBits.take 7)) ≤ 257 + 1 ∧
    (atLength 0 []).bitsLeft < 2 := by
  refine ⟨⟨by decide, by decide⟩, ?_, ?_, ?_, ?_, ?_⟩ <;> decide

theorem witness_CodesNeverReturned : (port 0).staged = none ∧ (port 0).cmds = [0] ∧ (∃ t, step (port 0) = .next t) ∧
    18 < 19 := ⟨by decide, by decide, ⟨_, rfl⟩, by decide⟩

theorem witness_LiteralAppendsByte : encode .llLit0 = .symbol .ll 0 ∧ encode .llLit255 = .symbol .ll 255 ∧
    (255 : BitVec 9).toNat ≤ 255 := by decide

theorem witness_EndOfBlockCountsBlock : ({ State.reset with bhdr := 1 } : State).bhdr.getLsbD 0 = true ∧
    State.reset.bhdr.getLsbD 0 = false := by decide

theorem witness_LengthCodeSetsLength : encode .llLen257 = .symbol .ll 257 ∧ encode .llLen285 = .symbol .ll 285 ∧
    encode .llLen284 = .symbol .ll 284 ∧ (feed [0x1F]).readerOk ∧ 5 ≤ (feed [0x1F]).bitsLeft ∧
    State.reset.bitsLeft < 5 := ⟨by decide, by decide, by decide, ⟨by decide, by decide⟩, by decide, by decide⟩

theorem witness_DistanceTooFarLatches : oneByteOut.readerOk ∧ oneByteOut.windowOk ∧
    encode .distD0 = .symbol .dist 0 ∧ distanceTable[0]? = some (0, 1) ∧
    1 + bitsValue (oneByteOut.streamBits.take 0) ≤ oneByteOut.wfill.toNat ∧
    encode .distD1 = .symbol .dist 1 ∧ distanceTable[1]? = some (0, 2) ∧
    oneByteOut.wfill.toNat < 2 + bitsValue (oneByteOut.streamBits.take 0) ∧
    encode .distD29 = .symbol .dist 29 ∧ distanceTable[29]? = some (13, 24577) ∧ 13 ≤ oneByteOut.bitsLeft :=
  ⟨⟨by decide, by decide⟩, oneByteOut_windowOk, by decide, by decide, by decide, by decide, by decide, by decide,
    by decide, by decide, by decide⟩

theorem witness_BackReferenceCopiesOutput : oneByteOut.readerOk ∧ oneByteOut.windowOk ∧
    encode .distD0 = .symbol .dist 0 ∧ distanceTable[0]? = some (0, 1) ∧ 0 ≤ oneByteOut.bitsLeft ∧
    1 + bitsValue (oneByteOut.streamBits.take 0) ≤ oneByteOut.wfill.toNat ∧ oneByteOut.loc.length = 3 ∧
    distanceTable[4]? = some (1, 5) ∧ ({ oneByteOut with input := [] } : State).bitsLeft < 1 :=
  ⟨⟨by decide, by decide⟩, oneByteOut_windowOk, by decide, by decide, by decide, by decide, by decide, by decide,
    by decide⟩

theorem witness_MeaninglessSymbolsInvalid : encode .llRes286 = .symbol .ll 286 ∧ encode .distRes30 = .symbol .dist 30 := by
  decide

theorem witness_RrdAnswersRegisterImage : 0x17 ≤ (0x17 : BitVec 8).toNat ∧ 0x17 ≤ (0xFF : BitVec 8).toNat := by decide

theorem witness_StreamRowsMatchBlockDecoder : encode .blockReserved = .symbol .btype 3 ∧
    encode .clRep18 = .symbol .cl 18 ∧ encode .llRes287 = .symbol .ll 287 ∧ encode .distRes31 = .symbol .dist 31 := by
  decide

theorem witness_StreamCommandsDependOnSession : ({ oneBuffered with sstate := .faulted } : State).sstate = .faulted ∧
    ({ oneBuffered with sstate := .done } : State).sstate = .done ∧
    ({ oneBuffered with sstate := .done } : State).readerOk ∧
    (17 : BitVec 6).toNat ≤ ({ oneBuffered with sstate := .done } : State).bitsLeft ∧
    ({ oneBuffered with sstate := .done } : State).bitsLeft < (18 : BitVec 6).toNat ∧ (32 : BitVec 6).toNat ≤ 32 ∧
    32 < (33 : BitVec 6).toNat :=
  ⟨rfl, rfl, ⟨by decide, by decide⟩, by decide, by decide, by decide, by decide⟩

theorem witness_DblkEndsDoneOrLatched : blockS2.sstate = .ready := rfl

/-- The contents of the worked block (95_test_vectors.md L1.8). -/
def textS2 : BlockText :=
  { bfinal := true
    numCL := 18
    cl := [0, 2, 2, 0, 0, 0, 0, 0, 0, 0, 0, 0, 0, 0, 0, 0, 0, 0, 1]
    items := [.manyZeros 54, .one 1, .manyZeros 127, .manyZeros 41, .one 2, .one 2, .one 1]
    ll := List.replicate 65 0 ++ [1] ++ List.replicate 190 0 ++ [2, 2]
    dist := [1]
    tokens := [.literal 0x41, .copy 257 0 0 0] }

theorem textS2_ok : textS2.ok 0 :=
  ⟨by decide, ⟨by decide, by decide, by decide, by decide⟩, by decide, by decide +kernel, by decide +kernel, by decide,
    by decide +kernel⟩

theorem blockS2_windowOk : blockS2.windowOk := by
  refine ⟨⟨by decide, by decide⟩, by decide, by decide, ?_⟩
  intro d h1 h2
  have : blockS2.wfill.toNat = 0 := rfl
  omega

theorem witness_DblkDecodesBlock : blockS2.sstate = .ready ∧ blockS2.readerOk ∧ blockS2.windowOk ∧
    textS2.ok blockS2.wfill.toNat ∧ blockS2.streamBits = textS2.bits ++ [false, false, false] :=
  ⟨rfl, ⟨by decide, by decide⟩, blockS2_windowOk, textS2_ok, by decide +kernel⟩

theorem witness_DstrDecodesStream : streamOk blockS2.wfill.toNat [textS2] ∧
    blockS2.streamBits = [textS2].flatMap BlockText.bits ++ [false, false, false] ∧
    textS2.tokens.foldl Token.expand [] = [0x41, 0x41, 0x41, 0x41] :=
  ⟨⟨rfl, textS2_ok⟩, by decide +kernel, by decide⟩

theorem witness_DstrDecodesStream_two : streamOk 0 [{ textS2 with bfinal := false }, textS2] := by
  refine ⟨rfl, ⟨textS2_ok.numCL, textS2_ok.cl, textS2_ok.items, textS2_ok.sequence, textS2_ok.ll, textS2_ok.dist,
    textS2_ok.tokens⟩, rfl, ⟨textS2_ok.numCL, textS2_ok.cl, textS2_ok.items, textS2_ok.sequence, textS2_ok.ll,
    textS2_ok.dist, ?_⟩⟩
  decide +kernel

/-- The literal 65, then the end of block, in the small tree. -/
theorem witness_LiteralRunDecodes :
    ({ feed [0x02] with treeLL := smallTree } : State).readerOk ∧ smallTree.wf (Config.nodecap .ll) ∧
    (∀ c ∈ [([false], (65 : Byte))], smallTree.codeOf c.1 (c.2.setWidth 9)) ∧ smallTree.codeOf [true, false] 256 ∧
    ({ feed [0x02] with treeLL := smallTree } : State).streamBits =
      [([false], (65 : Byte))].flatMap (fun c => c.1) ++ [true, false] ++ [false, false, false, false, false] := by
  refine ⟨⟨by decide, by decide⟩, smallTree_wf, ?_, ⟨3, by decide, rfl⟩, by decide⟩
  intro c hc
  simp only [List.mem_singleton] at hc
  subst hc
  exact ⟨1, by decide, rfl⟩

theorem witness_LoopsEndWithoutFuel : State.reset.bitsLeft < 1 ∧ oneBuffered.bitsLeft < 18 := by decide

theorem next_s2 : after (exec .dblk blockS2) (fun t => (t.sstate, t.resp)) = some (.done, ok 0x0001C00D) := by
  decide +kernel

theorem next_s2_not_final : after (exec .dblk blockS2NotFinal) (fun t => (t.sstate, t.resp)) =
    some (.ready, ok 0x0001C00C) := by decide +kernel

theorem witness_DstrIsRepeatedDblk : (∃ t, exec .dblk blockS2 = .next t ∧ t.sstate = .done) ∧
    (∃ t, exec .dblk blockS2NotFinal = .next t ∧ t.sstate = .ready) ∧
    (∃ t, exec .dblk State.reset = .next t ∧ t.sstate = .faulted) := by
  refine ⟨?_, ?_, ⟨_, rfl, rfl⟩⟩
  · obtain ⟨t, h1, h2⟩ := next_of_after next_s2
    exact ⟨t, h1, (Prod.mk.inj h2).1⟩
  · obtain ⟨t, h1, h2⟩ := next_of_after next_s2_not_final
    exact ⟨t, h1, (Prod.mk.inj h2).1⟩

theorem witness_DblkIgnoresHostTables : kraftMore.sstate = .ready ∧ SameStream kraftMore State.reset ∧
    kraftMore.lenCL ≠ State.reset.lenCL := by
  refine ⟨rfl, ⟨⟨rfl, rfl, rfl, rfl, rfl⟩, ⟨rfl, rfl, rfl, rfl⟩, ⟨rfl, rfl, rfl, rfl, rfl⟩,
    ⟨fun _ => rfl, rfl, rfl, rfl, rfl⟩, rfl⟩, ?_⟩
  decide +kernel

theorem witness_DblkLeavesBlockTables : ∃ t, blockS2.sstate = .ready ∧ exec .dblk blockS2 = .next t ∧
    t.resp = ok 0x0001C00D := by
  obtain ⟨t, h1, h2⟩ := next_of_after next_s2
  exact ⟨t, rfl, h1, (Prod.mk.inj h2).2⟩

/-- A word waiting in a session state, with these bytes to come. -/
def waiting (w : Word) (st : SState) (bytes : List Byte) : State := { feed bytes with cmds := [w], sstate := st }

theorem witness_SessionStateMoves_answers :
    (waiting 0x10000000 .faulted []).staged = none ∧ (waiting 0x10000000 .faulted []).cmds = [0x10000000] ∧
    after (step (waiting 0x10000000 .faulted [])) (fun t => t.sstate) = some .ready ∧
    after (step (waiting 0xC0000000 .faulted [])) (fun t => t.sstate) = some .faulted ∧
    after (step (waiting 0x20000001 .done [])) (fun t => (t.sstate, t.resp)) =
      some (.faulted, no .unexpectedEndOfInput) ∧
    after (step (waiting 0x20000001 .done [1])) (fun t => (t.sstate, t.resp)) = some (.done, ok 1) ∧
    after (step (waiting 0xC0000000 .ready [])) (fun t => (t.sstate, t.resp)) =
      some (.faulted, no .unexpectedEndOfInput) ∧
    after (step (waiting 0x00000000 .ready [])) (fun t => t.sstate) = some .ready := by decide

theorem witness_SessionStateMoves_blocks :
    after (step { blockS2 with cmds := [0xC0000000] }) (fun t => (t.sstate, t.bhdr.getLsbD 0, t.resp)) =
      some (.done, true, ok 0x0001C00D) := by decide +kernel

theorem witness_UnlatchedErrorsKeepSession :
    after (step (port 0xF0000000)) (fun t => t.resp) = some (no .illegalCommand) ∧
    after (step (port 0x5C000000)) (fun t => t.resp) = some (no .illegalOperand) ∧
    after (step (waiting 0xC0000000 .done [])) (fun t => t.resp) = some (no .streamFinished) ∧
    after (step (waiting 0xC0000000 .faulted [])) (fun t => t.resp) = some (no .sessionFaulted) ∧
    after (step { port 0x800000FF with treeCL := fullTree }) (fun t => t.resp) = some (no .treeCapacityExceeded) ∧
    reads (.command 0x800000FF) (.tins 0 0 0xFF) = true ∧ reads (.command 0x98000000) (.tbld 2) = true :=
  ⟨by decide, by decide, by decide, by decide, by decide +kernel, by decide, by decide⟩

theorem witness_TableCommandsKeepStream : encode .nop = .command 0 ∧ Instr.nop ≠ .srst ∧ Instr.nop ≠ .dblk ∧
    Instr.nop ≠ .dstr ∧ (∀ keep n, Instr.nop ≠ .brd keep n) ∧ (∃ t, exec .nop State.reset = .next t) :=
  ⟨by decide, by decide, by decide, by decide, (fun _ _ h => by cases h), ⟨_, rfl⟩⟩

theorem witness_OutputOnlyGrows : Instr.llLit0 ≠ .srst ∧
    ({ State.reset with wfill := 32768 } : State).wfill.toNat ≤ 32768 ∧
    (∃ t, exec .llLit0 { State.reset with wfill := 32768 } = .next t) ∧ (∃ t, exec .srst State.reset = .next t) :=
  ⟨by decide, by decide, ⟨_, rfl⟩, ⟨_, rfl⟩⟩

theorem witness_ReaderInvariantKept : ({ oneBuffered with cmds := [0x20000003] } : State).readerOk ∧
    (∃ t, step { oneBuffered with cmds := [0x20000003] } = .next t) := ⟨⟨by decide, by decide⟩, ⟨_, rfl⟩⟩

/-- A state between commands, a word waiting and a tree built by the host. -/
def between : State := { oneBuffered with cmds := [0x20000003], treeLL := smallTree }

theorem between_treesOk : between.treesOk := by
  intro k
  cases k
  · exact empty_wf (by decide)
  · exact smallTree_wf
  · exact empty_wf (by decide)

theorem witness_TreeInvariantsKept : between.treesOk ∧ (∃ t, step between = .next t) ∧
    (between.tree .ll).walk 0 [false] = some 1 ∧ (between.tree .ll).leafAt 1 65 ∧
    (between.tree .ll).walk 0 ([false] ++ []) = some 1 :=
  ⟨between_treesOk, ⟨_, rfl⟩, by decide, rfl, by decide⟩

theorem witness_CommandsKeepInvariants : between.Inv ∧ (∃ t, step between = .next t) := by
  refine ⟨⟨⟨by decide, by decide⟩, between_treesOk, ?_, ?_, (by unfold State.errorOk; decide), ⟨rfl, rfl⟩⟩, ⟨_, rfl⟩⟩
  · intro k
    cases k <;> decide +kernel
  · refine ⟨⟨by decide, by decide⟩, by decide, by decide, ?_⟩
    intro d h1 h2
    have : between.wfill.toNat = 0 := rfl
    omega

end Sys2Proof.Tests
end

section
/-! SUPPORT. Every step answers: the block machine reads its input forward, so no loop of it outlives its fuel (R322),
and no command answers anything but a next state. -/

namespace Sys2Proof.Machine

/-! ### The block machine stays within the bits left -/

/-- Where a piece within a bound goes on, the bound is on the state it goes on from. -/
theorem Within_bitsLeft {α : Type} {n : Nat} {r : Res α} {a : α} {t : State} (h : r.Within n) (hr : r = .ok a t) :
    t.bitsLeft ≤ n := by
  subst hr
  exact h

theorem readCounts_within (s : State) : (readCounts s).Within s.bitsLeft := by
  refine Within_bind (readBits_within (by omega) _) fun hlit s1 _ h1 => ?_
  refine Within_bind (readBits_within (by omega) _) fun hdist s2 _ h2 => ?_
  refine Within_bind (readBits_within (by omega) _) fun hclen s3 _ h3 => ?_
  simp only [setPhase_bitsLeft, setBhdr_bitsLeft] at h1 h2 h3
  simp only [Within_ok, setLoc_bitsLeft, setBhdr_bitsLeft]
  omega

theorem blockType_within (v : Nat) (s : State) : (blockType v s).Within s.bitsLeft := by
  simp only [blockType]
  split
  · exact readCounts_within s
  · trivial

theorem readHeader_within (s : State) : (readHeader s).Within s.bitsLeft := by
  refine Within_bind (readBits_within (by omega) _) fun bfinal s1 _ h1 => ?_
  refine Within_bind (readBits_within (by omega) _) fun btype s2 _ h2 => ?_
  simp only [setPhase_bitsLeft, setLoc_bitsLeft, setBhdr_bitsLeft] at h1 h2
  simp only [Within_ok, setBhdr_bitsLeft]
  omega

/-- The three header bits are consumed (R213). -/
theorem readHeader_ok_bitsLeft {s t : State} {btype : Nat} (h : readHeader s = .ok btype t) :
    t.bitsLeft + 3 = s.bitsLeft := by
  obtain ⟨bfinal, s1, h1, h⟩ := Res.bind_eq_ok h
  obtain ⟨bt, s2, h2, h⟩ := Res.bind_eq_ok h
  cases h
  have hfinal := readBits_ok_bitsLeft (by omega) h1
  have htype := readBits_ok_bitsLeft (by omega) h2
  simp only [setPhase_bitsLeft, setLoc_bitsLeft, setBhdr_bitsLeft] at hfinal htype ⊢
  omega

theorem readClLengths_within (syms : List Nat) (s : State) : (readClLengths syms s).Within s.bitsLeft := by
  induction syms generalizing s with
  | nil => exact Nat.le_refl _
  | cons sym rest ih =>
    exact Within_bind (readBits_within (by omega) s) fun v s1 _ h1 => Within_mono (ih _) (by simpa using h1)

theorem readClAlphabet_within (s : State) : (readClAlphabet s).Within s.bitsLeft := by
  simpa [readClAlphabet] using readClLengths_within (perm.take s.loc.numCL) (s.clearLens .cl)

theorem buildClTree_within (s : State) : (buildClTree s).Within s.bitsLeft := by
  simpa [buildClTree] using buildTree_within .cl ((s.setPhase .buildClTree).buildCodes .cl)

theorem buildDataTrees_within (s : State) : (buildDataTrees s).Within s.bitsLeft := by
  refine Within_bind (buildTree_within _ _) fun _ s1 _ h1 => Within_mono (buildTree_within _ _) ?_
  simpa using h1

/-- Each round of the length loop decodes a symbol, so fuel above the bits left is never used up (R218, R322). -/
theorem lengthLoop_within (fuel : Nat) (s : State) (h : s.bitsLeft < fuel) :
    (lengthLoop fuel s).Within s.bitsLeft := by
  induction fuel generalizing s with
  | zero => omega
  | succ fuel ih =>
    simp only [lengthLoop]
    split
    · refine Within_bind (decodeSymbol_within .cl s) fun sym s1 hsym _ => ?_
      have hdrop := decodeSymbol_ok_bitsLeft hsym
      refine Within_bind (clSymbol_within _ s1) fun _ s2 _ h2 => ?_
      exact Within_mono (ih s2 (by omega)) (by omega)
    · exact Nat.le_refl _

theorem decodeLengths_within (s : State) : (decodeLengths s).Within s.bitsLeft := by
  have hstart : (startLengths s).bitsLeft = s.bitsLeft := by simp [startLengths]
  have := lengthLoop_within (s.bitsLeft + 1) (startLengths s) (by omega)
  rwa [hstart] at this

/-- Each round of the data loop decodes an LL symbol, so fuel above the bits left is never used up (R226, R322). -/
theorem dataLoop_within (fuel : Nat) (s : State) (h : s.bitsLeft < fuel) : (dataLoop fuel s).Within s.bitsLeft := by
  induction fuel generalizing s with
  | zero => omega
  | succ fuel ih =>
    refine Within_bind (decodeSymbol_within .ll s) fun sym s1 hsym _ => ?_
    have hdrop := decodeSymbol_ok_bitsLeft hsym
    refine Within_bind (llSymbol_within _ s1) fun _ s2 _ h2 => ?_
    split
    · exact Nat.le_trans h2 (Nat.le_of_lt hdrop)
    · split
      · exact Within_mono (ih s2 (by omega)) (by omega)
      · refine Within_bind (decodeSymbol_within .dist s2) fun dsym s3 _ h3 => ?_
        refine Within_bind (distSymbol_within _ s3) fun _ s4 _ h4 => ?_
        exact Within_mono (ih s4 (by omega)) (by omega)

theorem decodeData_within (s : State) : (decodeData s).Within s.bitsLeft := by
  simpa [decodeData] using dataLoop_within (s.bitsLeft + 1) (s.setPhase .decodeSymbols) (by simp)

/-- The block machine after ReadBlockHeader (R211, R212). -/
def afterHeader (btype : Nat) (s : State) : Res Unit :=
  (blockType btype s).bind fun _ s2 =>
  (readClAlphabet s2).bind fun _ s3 =>
  (buildClTree s3).bind fun _ s4 =>
  (decodeLengths s4).bind fun _ s5 =>
  (buildDataTrees s5).bind fun _ s6 =>
  decodeData s6

theorem decodeBlock_eq_bind_afterHeader (s : State) : decodeBlock s = (readHeader s).bind afterHeader := rfl

theorem afterHeader_within (btype : Nat) (s : State) : (afterHeader btype s).Within s.bitsLeft := by
  refine Within_bind (blockType_within btype s) fun _ s2 _ h2 => ?_
  refine Within_bind (readClAlphabet_within s2) fun _ s3 _ h3 => ?_
  refine Within_bind (buildClTree_within s3) fun _ s4 _ h4 => ?_
  refine Within_bind (decodeLengths_within s4) fun _ s5 _ h5 => ?_
  refine Within_bind (buildDataTrees_within s5) fun _ s6 _ h6 => ?_
  exact Within_mono (decodeData_within s6) (by omega)

theorem decodeBlock_within (s : State) : (decodeBlock s).Within s.bitsLeft :=
  Within_bind (readHeader_within s) fun btype s1 _ h1 => Within_mono (afterHeader_within btype s1) h1

/-- A block that completes has consumed at least its header. -/
theorem decodeBlock_ok_bitsLeft {s t : State} (h : decodeBlock s = .ok () t) : t.bitsLeft < s.bitsLeft := by
  rw [decodeBlock_eq_bind_afterHeader] at h
  obtain ⟨btype, s1, hheader, hrest⟩ := Res.bind_eq_ok h
  have hdrop := readHeader_ok_bitsLeft hheader
  have hle := Within_bitsLeft (afterHeader_within btype s1) hrest
  omega

/-- Each round of the stream loop consumes a header, so fuel above the bits left is never used up (R237, R322). -/
theorem streamLoop_within (fuel : Nat) (s : State) (h : s.bitsLeft < fuel) :
    (streamLoop fuel s).Within s.bitsLeft := by
  induction fuel generalizing s with
  | zero => omega
  | succ fuel ih =>
    simp only [streamLoop]
    split
    · refine Within_bind (decodeBlock_within s) fun _ s1 hblock h1 => ?_
      have hdrop := decodeBlock_ok_bitsLeft hblock
      exact Within_mono (ih s1 (by omega)) h1
    · exact Nat.le_refl _
    · exact Nat.le_refl _

/-! ### Stream rows -/

/-- What DBLK does with a decoded value of a kind (R214, R219, R226, R231). -/
def symbolEffect : StreamKind → Nat → State → Res Unit
  | .btype => blockType
  | .cl => clSymbol
  | .ll => llSymbol
  | .dist => distSymbol

theorem symbolEffect_within (kind : StreamKind) (v : Nat) (s : State) : (symbolEffect kind v s).Within s.bitsLeft := by
  cases kind
  · exact blockType_within v s
  · exact clSymbol_within v s
  · exact llSymbol_within v s
  · exact distSymbol_within v s

/-- A stream row has the effect DBLK gives the value it is encoded as (R124, R241). -/
theorem exec_of_encode_symbol {i : Instr} {kind : StreamKind} {v : BitVec 9} (h : encode i = .symbol kind v)
    (s : State) : exec i s = finishSymbol (symbolEffect kind v.toNat s) := by
  cases i with
  | nop | srst | brd | lwr | lrd | cbld | crd | tclr | tins | tbld | trst | tadv | dblk | dstr | rrd | reservedOp =>
    cases h
  | _ => cases h; rfl

/-! ### Every instruction answers -/

/-- The outcome is a next state: neither a fault nor a refusal. -/
def Answers (o : Host.Outcome State Fault Refusal) : Prop := ∃ t, o = .next t

@[simp] theorem Answers_next (t : State) : Answers (.next t) := ⟨t, rfl⟩

@[simp] theorem Answers_answer (result : Word) (s : State) : Answers (answer result s) := ⟨_, rfl⟩

@[simp] theorem Answers_refuse (e : Status) (s : State) : Answers (refuse e s) := ⟨_, rfl⟩

theorem finishSymbol_answers {n : Nat} {r : Res Unit} (h : r.Within n) : Answers (finishSymbol r) := by
  cases r with
  | ok _ s => exact ⟨_, rfl⟩
  | err e s => exact ⟨_, rfl⟩
  | stuck => exact h.elim

theorem finishBlocks_answers {n : Nat} {r : Res Unit} (result : State → Word) (h : r.Within n) :
    Answers (finishBlocks result r) := by
  cases r with
  | ok _ s => exact ⟨_, rfl⟩
  | err e s => exact ⟨_, rfl⟩
  | stuck => exact h.elim

theorem streamRow_answers {i : Instr} {kind : StreamKind} {v : BitVec 9} (h : encode i = .symbol kind v)
    (s : State) : Answers (exec i s) := by
  rw [exec_of_encode_symbol h]
  exact finishSymbol_answers (symbolEffect_within kind v.toNat s)

theorem execBrd_answers (keep : Bool) (n : BitVec 6) (s : State) : Answers (execBrd keep n s) := by
  cases hr : readBits n.toNat keep s with
  | ok v s1 =>
    simp only [execBrd, hr]
    split
    · simp
    · split <;> simp
  | err e s1 =>
    simp only [execBrd, hr]
    split
    · simp
    · split <;> simp
  | stuck => exact (readBits_ne_stuck _ _ _ hr).elim

theorem execLwr_answers (sel : BitVec 2) (idx : BitVec 9) (val : BitVec 4) (s : State) :
    Answers (execLwr sel idx val s) := by
  simp only [execLwr]
  split
  · simp
  · split <;> simp

theorem execLrd_answers (sel : BitVec 2) (idx : BitVec 9) (s : State) : Answers (execLrd sel idx s) := by
  simp only [execLrd]
  split <;> simp

theorem execCbld_answers (sel : BitVec 2) (s : State) : Answers (execCbld sel s) := by
  simp only [execCbld]
  split <;> simp

theorem execCrd_answers (sel : BitVec 2) (idx : BitVec 9) (s : State) : Answers (execCrd sel idx s) := by
  simp only [execCrd]
  split <;> simp

theorem execTclr_answers (sel : BitVec 2) (s : State) : Answers (execTclr sel s) := by
  simp only [execTclr]
  split <;> simp

theorem execTins_answers (sel : BitVec 2) (sym : BitVec 9) (mk : BitVec 16) (s : State) :
    Answers (execTins sel sym mk s) := by
  simp only [execTins]
  split
  · simp
  · split
    · simp
    · split <;> simp

theorem execTbld_answers (sel : BitVec 2) (s : State) : Answers (execTbld sel s) := by
  simp only [execTbld]
  split
  · simp
  · rename_i k _
    have hbuild := buildTree_within k s
    cases hr : buildTree k s with
    | ok _ s1 => simp
    | err e s1 => simp
    | stuck => rw [hr] at hbuild; exact hbuild.elim

theorem execTrst_answers (sel : BitVec 2) (s : State) : Answers (execTrst sel s) := by
  simp only [execTrst]
  split <;> simp

theorem execTadv_answers (sel : BitVec 2) (bit : Bool) (s : State) : Answers (execTadv sel bit s) := by
  simp only [execTadv]
  split <;> simp

theorem execRrd_answers (rn : BitVec 8) (s : State) : Answers (execRrd rn s) := by
  simp only [execRrd]
  split <;> simp

theorem execDblk_answers (s : State) : Answers (execDblk s) := by
  simp only [execDblk]
  split
  · simp
  · simp
  · exact finishBlocks_answers _ (decodeBlock_within s)

theorem execDstr_answers (s : State) : Answers (execDstr s) := by
  simp only [execDstr]
  split
  · simp
  · simp
  · exact finishBlocks_answers _ (streamLoop_within _ s (Nat.lt_succ_self _))

theorem exec_answers (i : Instr) (s : State) : Answers (exec i s) := by
  cases i with
  | nop => exact Answers_answer 0 s
  | srst => exact Answers_answer 0 (newSession s)
  | brd keep n => exact execBrd_answers keep n s
  | lwr sel idx val => exact execLwr_answers sel idx val s
  | lrd sel idx => exact execLrd_answers sel idx s
  | cbld sel => exact execCbld_answers sel s
  | crd sel idx => exact execCrd_answers sel idx s
  | tclr sel => exact execTclr_answers sel s
  | tins sel sym mk => exact execTins_answers sel sym mk s
  | tbld sel => exact execTbld_answers sel s
  | trst sel => exact execTrst_answers sel s
  | tadv sel bit => exact execTadv_answers sel bit s
  | dblk => exact execDblk_answers s
  | dstr => exact execDstr_answers s
  | rrd rn => exact execRrd_answers rn s
  | reservedOp low => exact Answers_refuse .illegalCommand s
  | _ => exact streamRow_answers rfl s

theorem rejectCode_answers (r : DecodeReject) (s : State) : Answers (rejectCode r s) := by
  cases r with
  | reservedBits => exact Answers_refuse .illegalOperand s
  | notASymbol kind => cases kind <;> exact ⟨_, rfl⟩

/-- Settles O8: an idle block stays as it is, an instruction answers by `exec_answers`, and a code that is none by
`rejectCode_answers`. -/
theorem everyStepAnswers : Obligations.EveryStepAnswers := by
  unfold Obligations.EveryStepAnswers
  intro s
  change Answers (step s)
  simp only [step]
  split
  · exact Answers_next s
  · split
    · exact exec_answers _ _
    · exact rejectCode_answers _ _

end Sys2Proof.Machine
end

section
/-! SUPPORT. One case analysis for the commands, the stream rows and a step, beside the one for the block decoder
(`BlockClosed`): a property of states that every named update keeps is kept by every instruction and every step.  Each
invariant is then a list of small goals, one per update. -/

namespace Sys2Proof.Machine

/-- Where the outcome is a next state, that state satisfies a property. -/
def Leads (P : State → Prop) : Host.Outcome State Fault Refusal → Prop
  | .next t => P t
  | .fault _ => True
  | .refused _ => True

/-! ### Closed under the updates of the commands -/

/-- The updates the commands other than SRST, DBLK and DSTR are made of, each keeping the property.  Only BRD latches,
and what it latches is not OK (R284). -/
structure CommandClosed (P : State → Prop) : Prop where
  respond : ∀ s e r, P s → P (s.respond e r)
  latch : ∀ s e p, e ≠ .ok → P s → P (latch e p s)
  topUp : ∀ s n, n ≤ 32 → P s → P (s.toppedUp n)
  consume : ∀ s n, n ≤ 32 → n ≤ s.brCnt.toNat → P s → P (s.consume n)
  setLen : ∀ s k i v, P s → P (s.setLen k i v)
  buildCodes : ∀ s k, P s → P (s.buildCodes k)
  clearTree : ∀ s k, P s → P (s.setTree k Tree.empty)
  insertTree : ∀ s k l c sym t, (s.tree k).insert (Config.nodecap k) l c sym = .inserted t → P s → P (s.setTree k t)
  buildTree : ∀ s k, P s → P (s.setTree k (Tree.build (Config.nodecap k) (s.codes k) 0 Tree.empty).2)
  resetCursor : ∀ s k, P s → P (s.setTree k (s.tree k).resetCursor)
  advance : ∀ s k b, P s → P (s.setTree k ((s.tree k).advance b).2)

/-- The updates every instruction but SRST is made of, each keeping the property. -/
structure ExecClosed (P : State → Prop) : Prop extends BlockClosed P, CommandClosed P

/-- The updates a step is made of, each keeping the property: those of the instructions, a new session, and taking the
staged value or the first waiting word. -/
structure StepClosed (P : State → Prop) : Prop extends ExecClosed P where
  newSession : ∀ s, P s → P (newSession s)
  takeStaged : ∀ s, P s → P { s with staged := none }
  takeWord : ∀ s rest, P s → P { s with cmds := rest }

section
variable {P : State → Prop}

/-! ### Commands -/

/-- A read, kept or consumed, keeps the property. -/
theorem readBits_keep_holds (H : CommandClosed P) {n : Nat} (hn : n ≤ 32) (keep : Bool) {s : State} (h : P s) :
    (readBits n keep s).Holds P := by
  have htop := H.topUp s n hn h
  rcases readBits_cases (by omega : n ≤ 56) keep s with ⟨-, hc, he⟩ | ⟨-, he⟩
  · rw [he, Holds_ok]
    split
    · exact htop
    · exact H.consume _ n hn hc htop
  · rw [he, Holds_err]
    exact htop

/-- The one error of a read is the end of the input (R143). -/
theorem readBits_eq_err {n : Nat} {keep : Bool} {s t : State} {e : Status} (h : readBits n keep s = .err e t) :
    e = .unexpectedEndOfInput := by
  simp only [readBits] at h
  split at h
  · cases h
  · injection h with he _
    exact he.symm

theorem execBrd_leads (H : CommandClosed P) (keep : Bool) (n : BitVec 6) {s : State} (h : P s) :
    Leads P (execBrd keep n s) := by
  simp only [execBrd]
  split
  · exact H.respond _ _ _ h
  · rename_i hn
    have hread := readBits_keep_holds H (by omega : n.toNat ≤ 32) keep h
    cases hs : s.sstate with
    | faulted => exact H.respond _ _ _ h
    | ready | done =>
      cases hr : readBits n.toNat keep s with
      | ok v s1 => rw [hr] at hread; exact H.respond _ _ _ hread
      | err e s1 =>
        rw [hr] at hread
        exact H.latch _ _ _ (by rw [readBits_eq_err hr]; decide) hread
      | stuck => exact (readBits_ne_stuck _ _ _ hr).elim

theorem execLwr_leads (H : CommandClosed P) (sel : BitVec 2) (idx : BitVec 9) (val : BitVec 4) {s : State} (h : P s) :
    Leads P (execLwr sel idx val s) := by
  simp only [execLwr]
  split
  · exact H.respond _ _ _ h
  · split
    · exact H.respond _ _ _ h
    · exact H.respond _ _ _ (H.setLen _ _ _ _ h)

theorem execLrd_leads (H : CommandClosed P) (sel : BitVec 2) (idx : BitVec 9) {s : State} (h : P s) :
    Leads P (execLrd sel idx s) := by
  simp only [execLrd]
  split <;> exact H.respond _ _ _ h

theorem execCbld_leads (H : CommandClosed P) (sel : BitVec 2) {s : State} (h : P s) : Leads P (execCbld sel s) := by
  simp only [execCbld]
  split
  · exact H.respond _ _ _ h
  · exact H.respond _ _ _ (H.buildCodes _ _ h)

theorem execCrd_leads (H : CommandClosed P) (sel : BitVec 2) (idx : BitVec 9) {s : State} (h : P s) :
    Leads P (execCrd sel idx s) := by
  simp only [execCrd]
  split <;> exact H.respond _ _ _ h

theorem execTclr_leads (H : CommandClosed P) (sel : BitVec 2) {s : State} (h : P s) : Leads P (execTclr sel s) := by
  simp only [execTclr]
  split
  · exact H.respond _ _ _ h
  · exact H.respond _ _ _ (H.clearTree _ _ h)

theorem execTins_leads (H : CommandClosed P) (sel : BitVec 2) (sym : BitVec 9) (mk : BitVec 16) {s : State} (h : P s) :
    Leads P (execTins sel sym mk s) := by
  simp only [execTins]
  split
  · exact H.respond _ _ _ h
  · split
    · exact H.respond _ _ _ h
    · split
      · rename_i hins
        exact H.respond _ _ _ (H.insertTree _ _ _ _ _ _ hins h)
      all_goals exact H.respond _ _ _ h

theorem execTbld_leads (H : CommandClosed P) (sel : BitVec 2) {s : State} (h : P s) : Leads P (execTbld sel s) := by
  simp only [execTbld]
  split
  · exact H.respond _ _ _ h
  · rename_i k _
    have hb := H.buildTree s k h
    rcases ht : Tree.build (Config.nodecap k) (s.codes k) 0 Tree.empty with ⟨e, t⟩
    rw [ht] at hb
    cases e with
    | none => simp only [buildTree, ht]; exact H.respond _ _ _ hb
    | some e => simp only [buildTree, ht]; exact H.respond _ _ _ hb

theorem execTrst_leads (H : CommandClosed P) (sel : BitVec 2) {s : State} (h : P s) : Leads P (execTrst sel s) := by
  simp only [execTrst]
  split
  · exact H.respond _ _ _ h
  · exact H.respond _ _ _ (H.resetCursor _ _ h)

theorem execTadv_leads (H : CommandClosed P) (sel : BitVec 2) (bit : Bool) {s : State} (h : P s) :
    Leads P (execTadv sel bit s) := by
  simp only [execTadv]
  split
  · exact H.respond _ _ _ h
  · exact H.respond _ _ _ (H.advance _ _ _ h)

theorem execRrd_leads (H : CommandClosed P) (rn : BitVec 8) {s : State} (h : P s) : Leads P (execRrd rn s) := by
  simp only [execRrd]
  split <;> exact H.respond _ _ _ h

/-- Whatever the commands' updates keep, every command but SRST, DBLK and DSTR keeps. -/
theorem command_leads (H : CommandClosed P) {i : Instr} {w : Word} (hi : encode i = .command w) (hsrst : i ≠ .srst)
    (hdblk : i ≠ .dblk) (hdstr : i ≠ .dstr) {s : State} (h : P s) : Leads P (exec i s) := by
  cases i with
  | nop => exact H.respond _ _ _ h
  | srst => exact (hsrst rfl).elim
  | brd keep n => exact execBrd_leads H keep n h
  | lwr sel idx val => exact execLwr_leads H sel idx val h
  | lrd sel idx => exact execLrd_leads H sel idx h
  | cbld sel => exact execCbld_leads H sel h
  | crd sel idx => exact execCrd_leads H sel idx h
  | tclr sel => exact execTclr_leads H sel h
  | tins sel sym mk => exact execTins_leads H sel sym mk h
  | tbld sel => exact execTbld_leads H sel h
  | trst sel => exact execTrst_leads H sel h
  | tadv sel bit => exact execTadv_leads H sel bit h
  | dblk => exact (hdblk rfl).elim
  | dstr => exact (hdstr rfl).elim
  | rrd rn => exact execRrd_leads H rn h
  | reservedOp low => exact H.respond _ _ _ h
  | _ => cases hi

end

/-! ### The errors a block raises -/

/-- The errors a block raises: those with a latched code from 2 to 8 (R281), and a full arena, which the model latches
too if BuildTree raises it (notes/assumptions/11). -/
def BlockRaised (e : Status) : Prop := e = .treeCapacityExceeded ∨ (2 ≤ e.code.toNat ∧ e.code.toNat ≤ 8)

theorem BlockRaised.code_ne {e : Status} (h : BlockRaised e) : e.code ≠ 0 := by
  rcases h with rfl | ⟨h2, -⟩
  · decide
  · rintro h0
    rw [h0] at h2
    exact absurd h2 (by decide)

/-- What a piece raises, if it raises, is an error of a block. -/
def Res.Raises {α : Type} : Res α → Prop
  | .ok _ _ => True
  | .err e _ => BlockRaised e
  | .stuck => True

theorem Raises_bind {α β : Type} {r : Res α} {f : α → State → Res β} (hr : r.Raises)
    (hf : ∀ a s, (f a s).Raises) : (r.bind f).Raises := by
  cases r with
  | ok a s => exact hf a s
  | err e s => exact hr
  | stuck => trivial

theorem readBits_raises (n : Nat) (keep : Bool) (s : State) : (readBits n keep s).Raises := by
  cases hr : readBits n keep s with
  | ok v t => trivial
  | err e t => exact .inr (by rw [readBits_eq_err hr]; decide)
  | stuck => trivial

theorem decodeBits_raises (k : Sel) (fuel : Nat) (s : State) : (decodeBits k fuel s).Raises := by
  induction fuel generalizing s with
  | zero => trivial
  | succ fuel ih =>
    refine Raises_bind (readBits_raises 1 false s) fun b s1 => ?_
    split
    · trivial
    · exact ih _
    · exact .inr (by decide)

theorem decodeSymbol_raises (k : Sel) (s : State) : (decodeSymbol k s).Raises := decodeBits_raises k _ _

theorem build_raises (cap : Nat) (es : List CodeEntry) (i : Nat) (t : Tree) {e : Status}
    (h : (Tree.build cap es i t).1 = some e) : BlockRaised e := by
  have hviolation : some Status.prefixCodeViolation = some e → BlockRaised e := fun heq => by
    cases heq; exact .inr (by decide)
  induction es generalizing i t with
  | nil => cases h
  | cons c rest ih =>
    simp only [Tree.build] at h
    split at h
    · exact ih _ _ h
    · split at h
      · exact hviolation h
      · split at h
        · exact ih _ _ h
        · cases h; exact .inl rfl
        · exact hviolation h
        · exact hviolation h

theorem buildTree_raises (k : Sel) (s : State) : (buildTree k s).Raises := by
  simp only [buildTree]
  split
  · trivial
  · rename_i e t ht
    exact build_raises _ _ _ _ (congrArg Prod.fst ht)

theorem repeatLast_raises (n : Nat) (s : State) : (repeatLast n s).Raises := by
  simp only [repeatLast]
  split
  · exact .inr (by decide)
  · trivial

theorem clSymbol_raises (v : Nat) (s : State) : (clSymbol v s).Raises := by
  simp only [clSymbol]
  split
  · trivial
  · split
    · exact Raises_bind (readBits_raises 2 false s) fun _ _ => repeatLast_raises _ _
    · split
      · exact Raises_bind (readBits_raises 3 false s) fun _ _ => repeatLast_raises _ _
      · split
        · exact Raises_bind (readBits_raises 7 false s) fun _ _ => repeatLast_raises _ _
        · exact .inr (by decide)

theorem llSymbol_raises (v : Nat) (s : State) : (llSymbol v s).Raises := by
  simp only [llSymbol]
  split
  · trivial
  · split
    · trivial
    · split
      · exact Raises_bind (readBits_raises _ false s) fun _ _ => trivial
      · exact .inr (by decide)

theorem distSymbol_raises (v : Nat) (s : State) : (distSymbol v s).Raises := by
  simp only [distSymbol]
  split
  · refine Raises_bind (readBits_raises _ false s) fun x s1 => ?_
    split
    · exact .inr (by decide)
    · trivial
  · exact .inr (by decide)

theorem blockType_raises (v : Nat) (s : State) : (blockType v s).Raises := by
  simp only [blockType]
  split
  · exact Raises_bind (readBits_raises 5 false _) fun _ _ => Raises_bind (readBits_raises 5 false _) fun _ _ =>
      Raises_bind (readBits_raises 4 false _) fun _ _ => trivial
  · exact .inr (by decide)

theorem symbolEffect_raises (kind : StreamKind) (v : Nat) (s : State) : (symbolEffect kind v s).Raises := by
  cases kind
  · exact blockType_raises v s
  · exact clSymbol_raises v s
  · exact llSymbol_raises v s
  · exact distSymbol_raises v s

theorem readHeader_raises (s : State) : (readHeader s).Raises :=
  Raises_bind (readBits_raises 1 false _) fun _ _ => Raises_bind (readBits_raises 2 false _) fun _ _ => trivial

theorem readClLengths_raises (syms : List Nat) (s : State) : (readClLengths syms s).Raises := by
  induction syms generalizing s with
  | nil => trivial
  | cons sym rest ih => exact Raises_bind (readBits_raises 3 false s) fun _ _ => ih _

theorem lengthLoop_raises (fuel : Nat) (s : State) : (lengthLoop fuel s).Raises := by
  induction fuel generalizing s with
  | zero => trivial
  | succ fuel ih =>
    simp only [lengthLoop]
    split
    · exact Raises_bind (decodeSymbol_raises .cl s) fun _ _ => Raises_bind (clSymbol_raises _ _) fun _ _ => ih _
    · trivial

theorem dataLoop_raises (fuel : Nat) (s : State) : (dataLoop fuel s).Raises := by
  induction fuel generalizing s with
  | zero => trivial
  | succ fuel ih =>
    refine Raises_bind (decodeSymbol_raises .ll s) fun _ _ => Raises_bind (llSymbol_raises _ _) fun _ _ => ?_
    split
    · trivial
    · split
      · exact ih _
      · exact Raises_bind (decodeSymbol_raises .dist _) fun _ _ => Raises_bind (distSymbol_raises _ _) fun _ _ => ih _

theorem decodeBlock_raises (s : State) : (decodeBlock s).Raises := by
  refine Raises_bind (readHeader_raises s) fun _ _ => Raises_bind (blockType_raises _ _) fun _ _ => ?_
  refine Raises_bind (readClLengths_raises _ _) fun _ _ => Raises_bind (buildTree_raises _ _) fun _ _ => ?_
  refine Raises_bind (lengthLoop_raises _ _) fun _ _ => ?_
  refine Raises_bind (Raises_bind (buildTree_raises _ _) fun _ _ => buildTree_raises _ _) fun _ _ => ?_
  exact dataLoop_raises _ _

theorem streamLoop_raises (fuel : Nat) (s : State) : (streamLoop fuel s).Raises := by
  induction fuel generalizing s with
  | zero => trivial
  | succ fuel ih =>
    simp only [streamLoop]
    split
    · exact Raises_bind (decodeBlock_raises s) fun _ _ => ih _
    · trivial
    · trivial

/-! ### Instructions and steps -/

theorem symbolEffect_holds {P : State → Prop} (H : BlockClosed P) (kind : StreamKind) (v : Nat) {s : State}
    (h : P s) : (symbolEffect kind v s).Holds P := by
  cases kind
  · exact blockType_holds H v h
  · exact clSymbol_holds H v h
  · exact llSymbol_holds H v h
  · exact distSymbol_holds H v h

/-- A block-decoding command ends in a state with a property when its blocks keep one from which the answer and the
latched error lead to it. -/
theorem finishBlocks_leads {P Q : State → Prop} {result : State → Word} {r : Res Unit} (hr : r.Holds P)
    (hraises : r.Raises) (hok : ∀ t, P t → Q ((t.setLoc Locals.idle).respond .ok (result t)))
    (herr : ∀ t e, BlockRaised e → P t → Q (blockError e t)) : Leads Q (finishBlocks result r) := by
  cases r with
  | ok _ t => exact hok t hr
  | err e t => exact herr t e hraises hr
  | stuck => trivial

section
variable {P : State → Prop}

theorem blockError_closed (H : ExecClosed P) {e : Status} (he : BlockRaised e) {s : State} (h : P s) :
    P (blockError e s) :=
  H.setLoc _ _ (H.latch _ _ _ (fun h0 => he.code_ne (by rw [h0]; rfl)) h)

theorem finishSymbol_leads (H : ExecClosed P) {r : Res Unit} (hr : r.Holds P) (hraises : r.Raises) :
    Leads P (finishSymbol r) := by
  cases r with
  | ok _ t => exact hr
  | err e t => exact blockError_closed H hraises hr
  | stuck => trivial

theorem execDblk_leads (H : ExecClosed P) {s : State} (h : P s) : Leads P (execDblk s) := by
  simp only [execDblk]
  split
  · exact H.respond _ _ _ h
  · exact H.respond _ _ _ h
  · exact finishBlocks_leads (decodeBlock_holds H.toBlockClosed h) (decodeBlock_raises s)
      (fun t ht => H.respond _ _ _ (H.setLoc _ _ ht)) fun t e he ht => blockError_closed H he ht

theorem execDstr_leads (H : ExecClosed P) {s : State} (h : P s) : Leads P (execDstr s) := by
  simp only [execDstr]
  split
  · exact H.respond _ _ _ h
  · exact H.respond _ _ _ h
  · exact finishBlocks_leads (streamLoop_holds H.toBlockClosed _ h) (streamLoop_raises _ s)
      (fun t ht => H.respond _ _ _ (H.setLoc _ _ ht)) fun t e he ht => blockError_closed H he ht

/-- Whatever the updates keep, every instruction but SRST keeps. -/
theorem exec_leads (H : ExecClosed P) {i : Instr} (hsrst : i ≠ .srst) {s : State} (h : P s) : Leads P (exec i s) := by
  cases hcode : encode i with
  | symbol kind v =>
    rw [exec_of_encode_symbol hcode]
    exact finishSymbol_leads H (symbolEffect_holds H.toBlockClosed kind _ h) (symbolEffect_raises kind _ s)
  | command w =>
    by_cases hdblk : i = .dblk
    · subst hdblk
      exact execDblk_leads H h
    · by_cases hdstr : i = .dstr
      · subst hdstr
        exact execDstr_leads H h
      · exact command_leads H.toCommandClosed hcode hsrst hdblk hdstr h

theorem rejectCode_leads (H : ExecClosed P) (r : DecodeReject) {s : State} (h : P s) : Leads P (rejectCode r s) := by
  cases r with
  | reservedBits => exact H.respond _ _ _ h
  | notASymbol kind => cases kind <;> exact blockError_closed H (.inr (by decide)) h

theorem nextCode_closed (H : StepClosed P) {s s1 : State} {c : Code} (hc : nextCode s = some (c, s1)) (h : P s) :
    P s1 := by
  simp only [nextCode] at hc
  split at hc
  · cases hc
    exact H.takeStaged _ h
  · split at hc
    · cases hc
      exact H.takeWord _ _ h
    · cases hc

/-- Whatever the updates, a new session and the taking of a code keep, every step keeps. -/
theorem step_leads (H : StepClosed P) {s : State} (h : P s) : Leads P (step s) := by
  simp only [step]
  split
  · exact h
  · rename_i c s1 hc
    have h1 := nextCode_closed H hc h
    split
    · rename_i i _
      by_cases hsrst : i = .srst
      · subst hsrst
        exact H.respond _ _ _ (H.newSession _ h1)
      · exact exec_leads H.toExecClosed hsrst h1
    · exact rejectCode_leads H.toExecClosed _ h1

theorem step_keeps (H : StepClosed P) {s t : State} (h : P s) (hstep : step s = .next t) : P t := by
  have := step_leads H h
  rwa [hstep] at this

end

end Sys2Proof.Machine
end

section
/-! SUPPORT. The invariants between commands, each kept by every step: the bit reader, the trees, the code tables and
the window by the updates a step is made of; the error register and the block's local values by the commands. -/

namespace Sys2Proof.Machine

/-! ### The bit reader (R32) -/

theorem reset_readerOk : State.reset.readerOk := ⟨by decide, by decide⟩

theorem readerOk_stepClosed : StepClosed State.readerOk where
  setPhase _ _ h := h
  setLoc _ _ h := h
  setBhdr _ _ _ _ h := h
  topUp _ _ hn h := (toppedUp_streamBits hn h).2
  consume _ _ _ hc h := (consume_streamBits hc h).2
  setLen _ k _ _ h := by cases k <;> exact h
  clearLens _ k h := by cases k <;> exact h
  buildCodes _ k h := by cases k <;> exact h
  buildTree _ k h := by cases k <;> exact h
  resetCursor _ k h := by cases k <;> exact h
  advance _ k _ h := by cases k <;> exact h
  append _ _ h := h
  blockDone _ h := h
  respond _ _ _ h := h
  latch _ _ _ _ h := h
  clearTree _ k h := by cases k <;> exact h
  insertTree _ k _ _ _ _ _ h := by cases k <;> exact h
  newSession _ _ := reset_readerOk
  takeStaged _ h := h
  takeWord _ _ h := h

/-- Settles O57: of the updates a step is made of, only the top-up, the consumption of bits and a new session write the
reader, and each leaves at most 39 bits with none set above them. -/
theorem readerInvariantKept : Obligations.ReaderInvariantKept := by
  unfold Obligations.ReaderInvariantKept
  exact ⟨fun _ _ h hstep => step_keeps readerOk_stepClosed h hstep, reset_readerOk⟩

/-! ### The trees (R38 to R41) -/

theorem nodecap_pos (k : Sel) : 1 ≤ Config.nodecap k := by cases k <;> decide

/-- Replacing a tree by one that meets its invariants keeps those of all three. -/
theorem setTree_treesOk {s : State} (h : s.treesOk) {k : Sel} {t : Tree} (ht : t.wf (Config.nodecap k)) :
    (s.setTree k t).treesOk := by
  intro j
  by_cases hj : j = k
  · subst hj
    rwa [setTree_tree_same]
  · rw [setTree_tree_other _ _ _ _ hj]
    exact h j

/-- The tree invariants speak of the trees alone. -/
theorem treesOk_of_tree_eq {s t : State} (h : s.treesOk) (heq : ∀ k, t.tree k = s.tree k := by simp) : t.treesOk :=
  fun k => by rw [heq]; exact h k

theorem reset_treesOk : State.reset.treesOk := fun k => by
  cases k <;> exact empty_wf (nodecap_pos _)

theorem treesOk_stepClosed : StepClosed State.treesOk where
  setPhase _ _ h := treesOk_of_tree_eq h
  setLoc _ _ h := treesOk_of_tree_eq h
  setBhdr _ _ _ _ h := treesOk_of_tree_eq h
  topUp _ _ _ h := treesOk_of_tree_eq h
  consume _ _ _ _ h := treesOk_of_tree_eq h
  setLen _ _ _ _ h := treesOk_of_tree_eq h
  clearLens _ _ h := treesOk_of_tree_eq h
  buildCodes _ _ h := treesOk_of_tree_eq h
  buildTree _ k h := setTree_treesOk h (build_wf (nodecap_lt k) _ _ (empty_wf (nodecap_pos k)))
  resetCursor _ k h := setTree_treesOk h (resetCursor_wf (h k))
  advance _ k b h := setTree_treesOk h (advance_wf (h k) b)
  append _ _ h := treesOk_of_tree_eq h
  blockDone _ h := treesOk_of_tree_eq h
  respond _ _ _ h := treesOk_of_tree_eq h
  latch _ _ _ _ h := treesOk_of_tree_eq h
  clearTree _ k h := setTree_treesOk h (empty_wf (nodecap_pos k))
  insertTree _ k _ _ _ _ hins h :=
    setTree_treesOk h (insertFrom_spec (nodecap_lt k) _ _ _ (h k) (root_allocated (h k)) hins).1
  newSession _ _ := treesOk_of_tree_eq reset_treesOk fun k => by cases k <;> rfl
  takeStaged _ h := treesOk_of_tree_eq h fun k => by cases k <;> rfl
  takeWord _ _ h := treesOk_of_tree_eq h fun k => by cases k <;> rfl

/-- A path is the path of its first bits, then that of the rest from where they lead. -/
theorem walk_append {t : Tree} {x y z : BitVec 12} {bits more : List Bool} (hx : t.walk x bits = some y)
    (hz : t.walk x (bits ++ more) = some z) : t.walk y more = some z := by
  induction bits generalizing x with
  | nil => cases hx; exact hz
  | cons b rest ih =>
    simp only [List.cons_append, Tree.walk] at hx hz
    split at hx
    · rename_i c hc
      simp only [hc] at hz
      exact ih hx hz
    · cases hx

/-- No path goes on from a LEAF. -/
theorem walk_leaf {t : Tree} {x y : BitVec 12} {sym : BitVec 9} {bits : List Bool} (hx : t.leafAt x sym)
    (hw : t.walk x bits = some y) : bits = [] := by
  cases bits with
  | nil => rfl
  | cons b rest =>
    have hnode : t.node x = .leaf sym := hx
    simp [Tree.walk, hnode] at hw

/-- Settles O58: every tree a step writes is the root alone, a tree with a code inserted, or a tree with its cursor
moved to an allocated node, and each meets the invariants.  No path passes through a LEAF, as a LEAF has no child. -/
theorem treeInvariantsKept : Obligations.TreeInvariantsKept := by
  unfold Obligations.TreeInvariantsKept
  refine ⟨fun _ _ h hstep => step_keeps treesOk_stepClosed h hstep, reset_treesOk, ?_⟩
  intro s k n m bits more a b hn hleaf hm _
  exact walk_leaf hleaf (walk_append hn hm)

/-! ### The code tables (R8, R37) -/

/-- Every length of an alphabet is one its alphabet allows: the width of its array bounds it (R8, R36). -/
theorem lens_le_lmax (s : State) (k : Sel) : ∀ l ∈ s.lens k, l ≤ Config.lmax k := by
  intro l hl
  cases k <;>
    · simp only [State.lens, List.mem_map] at hl
      obtain ⟨x, -, rfl⟩ := hl
      exact Nat.le_of_lt_succ x.isLt

/-- A code given out has the length of its symbol, so it is no longer than the longest length. -/
theorem assignCodes_clen_le {m : Nat} (next lens : List Nat) (h : ∀ l ∈ lens, l ≤ m) :
    ∀ e ∈ assignCodes next lens, e.clen.toNat ≤ m := by
  induction lens generalizing next with
  | nil => exact nofun
  | cons l rest ih =>
    have hrest : ∀ l ∈ rest, l ≤ m := fun x hx => h x (List.mem_cons_of_mem _ hx)
    intro e he
    simp only [assignCodes] at he
    split at he
    · rcases List.mem_cons.mp he with rfl | he
      · exact Nat.zero_le m
      · exact ih _ hrest e he
    · rcases List.mem_cons.mp he with rfl | he
      · exact Nat.le_trans (by simpa using Nat.mod_le l 16) (h l List.mem_cons_self)
      · exact ih _ hrest e he

theorem buildCodes_codesOk {s : State} (h : s.codesOk) (k : Sel) : (s.buildCodes k).codesOk := by
  intro j
  by_cases hj : j = k
  · subst hj
    rw [buildCodes_codes]
    exact assignCodes_clen_le _ _ (lens_le_lmax s j)
  · rw [buildCodes_codes_other _ _ _ hj]
    exact h j

/-- The condition on the code tables speaks of the code tables alone. -/
theorem codesOk_of_codes_eq {s t : State} (h : s.codesOk) (heq : ∀ k, t.codes k = s.codes k := by simp) : t.codesOk :=
  fun k => by rw [heq]; exact h k

theorem reset_codesOk : State.reset.codesOk := by
  intro k e he
  have hzero : e = { clen := 0, cval := 0 } := by
    cases k <;>
      · simp only [State.codes, State.reset, Vector.toList_replicate] at he
        exact List.eq_of_mem_replicate he
  rw [hzero]
  exact Nat.zero_le _

theorem codesOk_stepClosed : StepClosed State.codesOk where
  setPhase _ _ h := codesOk_of_codes_eq h
  setLoc _ _ h := codesOk_of_codes_eq h
  setBhdr _ _ _ _ h := codesOk_of_codes_eq h
  topUp _ _ _ h := codesOk_of_codes_eq h
  consume _ _ _ _ h := codesOk_of_codes_eq h
  setLen _ _ _ _ h := codesOk_of_codes_eq h
  clearLens _ _ h := codesOk_of_codes_eq h
  buildCodes _ k h := buildCodes_codesOk h k
  buildTree _ _ h := codesOk_of_codes_eq h
  resetCursor _ _ h := codesOk_of_codes_eq h
  advance _ _ _ h := codesOk_of_codes_eq h
  append _ _ h := codesOk_of_codes_eq h
  blockDone _ h := codesOk_of_codes_eq h
  respond _ _ _ h := codesOk_of_codes_eq h
  latch _ _ _ _ h := codesOk_of_codes_eq h
  clearTree _ _ h := codesOk_of_codes_eq h
  insertTree _ _ _ _ _ _ _ h := codesOk_of_codes_eq h
  newSession _ _ := codesOk_of_codes_eq reset_codesOk fun k => by cases k <;> rfl
  takeStaged _ h := codesOk_of_codes_eq h fun k => by cases k <;> rfl
  takeWord _ _ h := codesOk_of_codes_eq h fun k => by cases k <;> rfl

/-! ### The window (R42 to R44) -/

/-- The byte just appended is one place behind the write pointer. -/
theorem append_behind_one (s : State) (b : Byte) : (s.append b).behind 1 = s.wptr.toNat := by
  simp [State.behind]

/-- An index `d` places behind the write pointer is `d + 1` places behind it after an append. -/
theorem append_behind_succ (s : State) (b : Byte) (d : Nat) : (s.append b).behind (d + 1) = s.behind d := by
  have : s.wptr + 1 - BitVec.ofNat 15 (d + 1) = s.wptr - BitVec.ofNat 15 d := by
    rw [BitVec.ofNat_add]
    bv_omega
  simp only [State.behind, append_wptr, this]

/-- An index behind the write pointer by less than the window's size is not the one it points to. -/
theorem behind_ne_wptr (s : State) {d : Nat} (h1 : 1 ≤ d) (h2 : d < 32768) : s.behind d ≠ s.wptr.toNat := by
  simp only [State.behind]
  bv_omega

theorem append_windowOk {s : State} (b : Byte) (h : s.windowOk) : (s.append b).windowOk := by
  obtain ⟨hwf, hsize, hout, hbytes⟩ := h
  have hfill := fillNext_toNat s.wfill
  simp only [Config.wsize] at hsize
  refine ⟨append_wf b hwf, ?_, ?_, ?_⟩
  · simp only [append_wfill, hfill, Config.wsize]
    omega
  · simp only [append_wfill, append_output, hfill, List.length_append, List.length_singleton]
    omega
  · intro d h1 h2
    simp only [append_wfill, hfill] at h2
    obtain ⟨d, rfl⟩ := Nat.exists_eq_add_of_le' h1
    simp only [append_win, append_output, List.length_append, List.length_singleton]
    cases d with
    | zero => simp [append_behind_one, lookup_write_same]
    | succ d =>
      have hne := behind_ne_wptr s (d := d + 1) (by omega) (by omega)
      rw [append_behind_succ, lookup_write_other _ _ _ _ hne, hbytes (d + 1) (by omega) (by omega),
        List.getElem?_append_left (by omega)]
      congr 1
      omega

/-- The window invariant speaks of the window, its registers and the output alone. -/
theorem windowOk_of_window_eq {s t : State} (h : s.windowOk) (hwin : t.win = s.win := by simp)
    (hwptr : t.wptr = s.wptr := by simp) (hwfill : t.wfill = s.wfill := by simp)
    (hout : t.output = s.output := by simp) : t.windowOk := by
  simpa only [State.windowOk, State.behind, hwin, hwptr, hwfill, hout] using h

/-- A window of which nothing is written meets the invariant. -/
theorem windowOk_of_unwritten {s : State} (hwin : s.win = []) (hwfill : s.wfill = 0) : s.windowOk := by
  have h0 : s.wfill.toNat = 0 := by rw [hwfill]; rfl
  refine ⟨by simpa only [hwin] using ⟨List.Pairwise.nil, nofun⟩, by omega, by omega, ?_⟩
  intro d h1 h2
  omega

theorem windowOk_stepClosed : StepClosed State.windowOk where
  setPhase _ _ h := windowOk_of_window_eq h
  setLoc _ _ h := windowOk_of_window_eq h
  setBhdr _ _ _ _ h := windowOk_of_window_eq h
  topUp _ _ _ h := windowOk_of_window_eq h
  consume _ _ _ _ h := windowOk_of_window_eq h
  setLen _ _ _ _ h := windowOk_of_window_eq h
  clearLens _ _ h := windowOk_of_window_eq h
  buildCodes _ _ h := windowOk_of_window_eq h
  buildTree _ _ h := windowOk_of_window_eq h
  resetCursor _ _ h := windowOk_of_window_eq h
  advance _ _ _ h := windowOk_of_window_eq h
  append _ b h := append_windowOk b h
  blockDone _ h := windowOk_of_window_eq h
  respond _ _ _ h := windowOk_of_window_eq h
  latch _ _ _ _ h := windowOk_of_window_eq h
  clearTree _ _ h := windowOk_of_window_eq h
  insertTree _ _ _ _ _ _ _ h := windowOk_of_window_eq h
  newSession _ _ := windowOk_of_unwritten rfl rfl
  takeStaged _ h := windowOk_of_window_eq h
  takeWord _ _ h := windowOk_of_window_eq h

/-! ### The error register and the block's local values (R24, R25, R46) -/

/-- No block is in progress, and an error is latched exactly in FAULTED. -/
def State.quiet (s : State) : Prop := s.errorOk ∧ s.betweenCommands

/-- No error is latched, and no stream value is staged: what holds all through a block. -/
def State.unfaulted (s : State) : Prop := s.sstate ≠ .faulted ∧ s.errCode = 0 ∧ s.staged = none

/-- Both conditions speak of the session state, the error register, the staged value and the local values alone. -/
theorem quiet_of_error_eq {s t : State} (h : s.quiet) (hsstate : t.sstate = s.sstate := by simp)
    (hcode : t.errCode = s.errCode := by simp) (hstaged : t.staged = s.staged := by simp)
    (hloc : t.loc = s.loc := by simp) : t.quiet := by
  simpa only [State.quiet, State.errorOk, State.betweenCommands, hsstate, hcode, hstaged, hloc] using h

theorem unfaulted_of_error_eq {s t : State} (h : s.unfaulted) (hsstate : t.sstate = s.sstate := by simp)
    (hcode : t.errCode = s.errCode := by simp) (hstaged : t.staged = s.staged := by simp) : t.unfaulted := by
  simpa only [State.unfaulted, hsstate, hcode, hstaged] using h

theorem Status.eq_ok_of_code_eq_zero {e : Status} : e.code = 0 → e = .ok := by cases e <;> decide

theorem latch_errorOk {e : Status} (he : e.code ≠ 0) (p : BitVec 3) (s : State) : (latch e p s).errorOk :=
  ⟨fun _ => he, fun _ => rfl⟩

theorem blockError_quiet {e : Status} (he : e.code ≠ 0) {s : State} (h : s.staged = none) : (blockError e s).quiet :=
  ⟨latch_errorOk he s.phase.toBits s, h, rfl⟩

/-- In READY no error is latched. -/
theorem unfaulted_of_ready {s : State} (h : s.quiet) (hready : s.sstate = .ready) : s.unfaulted := by
  obtain ⟨herr, hstaged, -⟩ := h
  have hne : s.sstate ≠ .faulted := by rw [hready]; decide
  exact ⟨hne, Decidable.not_not.mp (mt herr.mpr hne), hstaged⟩

/-- A block-decoding command that goes on to its end leaves no local value. -/
theorem setLoc_idle_quiet {s : State} (h : s.unfaulted) : (s.setLoc Locals.idle).quiet := by
  obtain ⟨hne, hcode, hstaged⟩ := h
  exact ⟨⟨fun hf => (hne hf).elim, fun hc => (hc hcode).elim⟩, hstaged, rfl⟩

theorem unfaulted_blockClosed : BlockClosed State.unfaulted where
  setPhase _ _ h := unfaulted_of_error_eq h
  setLoc _ _ h := unfaulted_of_error_eq h
  setBhdr _ _ _ _ h := unfaulted_of_error_eq h
  topUp _ _ _ h := unfaulted_of_error_eq h
  consume _ _ _ _ h := unfaulted_of_error_eq h
  setLen _ _ _ _ h := unfaulted_of_error_eq h
  clearLens _ _ h := unfaulted_of_error_eq h
  buildCodes _ _ h := unfaulted_of_error_eq h
  buildTree _ _ h := unfaulted_of_error_eq h
  resetCursor _ _ h := unfaulted_of_error_eq h
  advance _ _ _ h := unfaulted_of_error_eq h
  append _ _ h := unfaulted_of_error_eq h
  blockDone s h := by
    obtain ⟨hne, hcode, hstaged⟩ := h
    refine ⟨?_, hcode, hstaged⟩
    rw [blockDone_sstate]
    split
    · decide
    · exact hne

theorem quiet_commandClosed : CommandClosed State.quiet where
  respond _ _ _ h := quiet_of_error_eq h
  latch s e p he h := ⟨latch_errorOk (mt Status.eq_ok_of_code_eq_zero he) p s, h.2⟩
  topUp _ _ _ h := quiet_of_error_eq h
  consume _ _ _ _ h := quiet_of_error_eq h
  setLen _ _ _ _ h := quiet_of_error_eq h
  buildCodes _ _ h := quiet_of_error_eq h
  clearTree _ _ h := quiet_of_error_eq h
  insertTree _ _ _ _ _ _ _ h := quiet_of_error_eq h
  buildTree _ _ h := quiet_of_error_eq h
  resetCursor _ _ h := quiet_of_error_eq h
  advance _ _ _ h := quiet_of_error_eq h

/-- A block-decoding command ends with no error latched, or with the one its blocks raised. -/
theorem finishBlocks_quiet {r : Res Unit} (result : State → Word) (hr : r.Holds State.unfaulted) (hraises : r.Raises) :
    Leads State.quiet (finishBlocks result r) :=
  finishBlocks_leads hr hraises (fun _ ht => quiet_of_error_eq (setLoc_idle_quiet ht))
    fun _ _ he ht => blockError_quiet he.code_ne ht.2.2

theorem execDblk_quiet {s : State} (h : s.quiet) : Leads State.quiet (execDblk s) := by
  simp only [execDblk]
  split
  · exact quiet_of_error_eq h
  · exact quiet_of_error_eq h
  · rename_i hready
    exact finishBlocks_quiet _ (decodeBlock_holds unfaulted_blockClosed (unfaulted_of_ready h hready))
      (decodeBlock_raises s)

theorem execDstr_quiet {s : State} (h : s.quiet) : Leads State.quiet (execDstr s) := by
  simp only [execDstr]
  split
  · exact quiet_of_error_eq h
  · exact quiet_of_error_eq h
  · rename_i hready
    exact finishBlocks_quiet _ (streamLoop_holds unfaulted_blockClosed _ (unfaulted_of_ready h hready))
      (streamLoop_raises _ s)

theorem newSession_quiet (s : State) : (newSession s).quiet := ⟨⟨nofun, nofun⟩, rfl, rfl⟩

theorem exec_command_quiet {i : Instr} {w : Word} (hi : encode i = .command w) {s : State} (h : s.quiet) :
    Leads State.quiet (exec i s) := by
  by_cases hsrst : i = .srst
  · subst hsrst
    exact quiet_of_error_eq (newSession_quiet s)
  · by_cases hdblk : i = .dblk
    · subst hdblk
      exact execDblk_quiet h
    · by_cases hdstr : i = .dstr
      · subst hdstr
        exact execDstr_quiet h
      · exact command_leads quiet_commandClosed hi hsrst hdblk hdstr h

theorem select_eq_ok {w mask pattern : Word} {i j : Instr} (h : select w mask pattern i = .ok j) : i = j := by
  simp only [select] at h
  split at h
  · cases h; rfl
  · cases h

/-- What a command word decodes to is the instruction of a command word (R92, R124). -/
theorem encode_of_decode_command {w : Word} {i : Instr} (h : decode (.command w) = .ok i) :
    ∃ v, encode i = .command v := by
  simp only [decode, decodeCommand] at h
  split at h
  case h_16 => cases h; exact ⟨_, rfl⟩
  all_goals
    obtain rfl := select_eq_ok h
    exact ⟨_, rfl⟩

/-- Between commands the next code is the first waiting word. -/
theorem nextCode_of_unstaged {s s1 : State} {c : Code} (hstaged : s.staged = none)
    (hc : nextCode s = some (c, s1)) : ∃ w rest, c = .command w ∧ s1 = { s with cmds := rest } := by
  simp only [nextCode, hstaged] at hc
  split at hc
  · rename_i w rest _
    cases hc
    exact ⟨w, rest, rfl, by rw [hstaged]⟩
  · cases hc

theorem rejectCode_quiet (r : DecodeReject) {s : State} (h : s.quiet) : Leads State.quiet (rejectCode r s) := by
  cases r with
  | reservedBits => exact quiet_of_error_eq h
  | notASymbol kind => cases kind <;> exact blockError_quiet (by decide) h.2.1

theorem step_quiet {s : State} (h : s.quiet) : Leads State.quiet (step s) := by
  simp only [step]
  split
  · exact h
  · rename_i c s1 hc
    obtain ⟨w, rest, rfl, rfl⟩ := nextCode_of_unstaged h.2.1 hc
    have htaken : State.quiet { s with cmds := rest } := quiet_of_error_eq h
    split
    · rename_i i hi
      obtain ⟨v, hv⟩ := encode_of_decode_command hi
      exact exec_command_quiet hv htaken
    · exact rejectCode_quiet _ htaken

/-! ### All of them together -/

/-- Settles O59: the invariants of the reader, the trees, the code tables and the window are kept by every step; the
error register and the local values by every step that runs a command, as a step from a state between commands does. -/
theorem commandsKeepInvariants : Obligations.CommandsKeepInvariants := by
  unfold Obligations.CommandsKeepInvariants
  intro s t h hstep
  obtain ⟨hreader, htrees, hcodes, hwindow, herror, hbetween⟩ := h
  have hquiet : Leads State.quiet (step s) := step_quiet ⟨herror, hbetween⟩
  rw [hstep] at hquiet
  exact {
    reader := step_keeps readerOk_stepClosed hreader hstep
    trees := step_keeps treesOk_stepClosed htrees hstep
    codes := step_keeps codesOk_stepClosed hcodes hstep
    window := step_keeps windowOk_stepClosed hwindow hstep
    error := hquiet.1
    between := hquiet.2 }

/-- Settles O60: each invariant holds of an empty reader, of trees that are their roots, of empty code tables and of an
unwritten window. -/
theorem resetMeetsInvariants : Obligations.ResetMeetsInvariants := by
  unfold Obligations.ResetMeetsInvariants
  exact {
    reader := reset_readerOk
    trees := reset_treesOk
    codes := reset_codesOk
    window := windowOk_of_unwritten rfl rfl
    error := ⟨nofun, nofun⟩
    between := ⟨rfl, rfl⟩ }

end Sys2Proof.Machine
end

section
/-! SUPPORT. The output under every instruction, the register values reset leaves, and what RRD reads. -/

namespace Sys2Proof.Machine

/-! ### The output only grows (R45) -/

/-- `t` has put out some bytes more than `s`, and its counter, write pointer and fill level have moved on by their
number (R43 to R45). -/
def OutputGrown (s t : State) : Prop :=
  ∃ bytes, t.output = s.output ++ bytes ∧ t.outcnt = s.outcnt + BitVec.ofNat 64 bytes.length ∧
    t.wptr = s.wptr + BitVec.ofNat 15 bytes.length ∧ t.wfill.toNat = min (s.wfill.toNat + bytes.length) 32768

theorem OutputGrown_refl {s : State} (h : s.wfill.toNat ≤ 32768) : OutputGrown s s :=
  ⟨[], by simp, by simp, by simp, by simp [h]⟩

/-- It speaks of the output and its registers alone. -/
theorem OutputGrown_of_output_eq {s t u : State} (h : OutputGrown s t) (hout : u.output = t.output := by simp)
    (hcnt : u.outcnt = t.outcnt := by simp) (hwptr : u.wptr = t.wptr := by simp)
    (hwfill : u.wfill = t.wfill := by simp) : OutputGrown s u := by
  simpa only [OutputGrown, hout, hcnt, hwptr, hwfill] using h

theorem OutputGrown_append {s t : State} (b : Byte) (h : OutputGrown s t) : OutputGrown s (t.append b) := by
  obtain ⟨bytes, hout, hcnt, hwptr, hwfill⟩ := h
  have hlen : (bytes ++ [b]).length = bytes.length + 1 := by simp
  refine ⟨bytes ++ [b], ?_, ?_, ?_, ?_⟩
  · rw [append_output, hout, List.append_assoc]
  · rw [append_outcnt, hcnt, hlen, BitVec.ofNat_add, BitVec.add_assoc]
    rfl
  · rw [append_wptr, hwptr, hlen, BitVec.ofNat_add, BitVec.add_assoc]
    rfl
  · rw [append_wfill, fillNext_toNat, hwfill, hlen]
    omega

theorem OutputGrown_execClosed (s : State) : ExecClosed (OutputGrown s) where
  setPhase _ _ h := OutputGrown_of_output_eq h
  setLoc _ _ h := OutputGrown_of_output_eq h
  setBhdr _ _ _ _ h := OutputGrown_of_output_eq h
  topUp _ _ _ h := OutputGrown_of_output_eq h
  consume _ _ _ _ h := OutputGrown_of_output_eq h
  setLen _ _ _ _ h := OutputGrown_of_output_eq h
  clearLens _ _ h := OutputGrown_of_output_eq h
  buildCodes _ _ h := OutputGrown_of_output_eq h
  buildTree _ _ h := OutputGrown_of_output_eq h
  resetCursor _ _ h := OutputGrown_of_output_eq h
  advance _ _ _ h := OutputGrown_of_output_eq h
  append _ b h := OutputGrown_append b h
  blockDone _ h := OutputGrown_of_output_eq h
  respond _ _ _ h := OutputGrown_of_output_eq h
  latch _ _ _ _ h := OutputGrown_of_output_eq h
  clearTree _ _ h := OutputGrown_of_output_eq h
  insertTree _ _ _ _ _ _ _ h := OutputGrown_of_output_eq h

/-- Settles O56: of the updates an instruction other than SRST is made of, only Append writes the output or its
registers, and it moves each on by one byte. -/
theorem outputOnlyGrows : Obligations.OutputOnlyGrows := by
  unfold Obligations.OutputOnlyGrows
  constructor
  · intro s t i hsrst hfill hexec
    have hgrown := exec_leads (OutputGrown_execClosed s) hsrst (OutputGrown_refl hfill)
    rw [hexec] at hgrown
    exact hgrown
  · intro s t hexec
    cases hexec
    exact ⟨rfl, rfl, rfl, rfl⟩

/-! ### Reset values (R49) -/

/-- The state after power-on and the one SRST leaves differ in the ports alone. -/
theorem eq_reset_but_ports {t : State} (h : t = State.reset ∨ ∃ s : State, exec .srst s = .next t) :
    t = { State.reset with cmds := t.cmds, input := t.input, output := t.output, resp := t.resp } := by
  rcases h with rfl | ⟨s, hexec⟩
  · rfl
  · cases hexec
    rfl

theorem reset_lenAt (k : Sel) {i : Nat} (hi : i < Config.asize k) : State.reset.lenAt k i = 0 := by
  cases k <;>
    · simp only [Config.asize] at hi
      simp [State.lenAt, State.reset, hi]

theorem reset_codeAt (k : Sel) {i : Nat} (hi : i < Config.asize k) :
    State.reset.codeAt k i = { clen := 0, cval := 0 } := by
  cases k <;>
    · simp only [Config.asize] at hi
      simp [State.codeAt, State.reset, hi]

/-- Settles O11: power-on and SRST leave the same state but for the ports, and that state holds the values of the
table. -/
theorem resetValuesOfEveryRegister : Obligations.ResetValuesOfEveryRegister := by
  unfold Obligations.ResetValuesOfEveryRegister
  intro t ht
  rw [eq_reset_but_ports ht]
  refine ⟨rfl, rfl, rfl, rfl, rfl, rfl, rfl, rfl, rfl, rfl, rfl, ?_, ?_, fun _ => rfl, rfl, rfl, rfl⟩
  · intro k i hi
    have hlen := reset_lenAt k hi
    have hcode := reset_codeAt k hi
    cases k <;> exact ⟨hlen, hcode⟩
  · intro k
    cases k <;> exact ⟨rfl, rfl, rfl⟩

/-! ### Register images (R47) -/

/-- RRD of a register with an image answers it (R263). -/
theorem exec_rrd_of_image {rn : BitVec 8} {s : State} {image : Word} (h : registerImage rn s = some image) :
    exec (.rrd rn) s = .next (s.respond .ok image) := by
  show execRrd rn s = _
  simp only [execRrd, h]
  rfl

/-- RRD of a number without an image is refused (R264). -/
theorem exec_rrd_of_none {rn : BitVec 8} {s : State} (h : registerImage rn s = none) :
    exec (.rrd rn) s = .next (s.respond .illegalOperand 0) := by
  show execRrd rn s = _
  simp only [execRrd, h]
  rfl

/-- From 0x17 on the register numbers are reserved (R47). -/
theorem registerImage_reserved {rn : BitVec 8} (h : 0x17 ≤ rn.toNat) (s : State) : registerImage rn s = none := by
  simp only [registerImage]
  split
  case h_24 => rfl
  all_goals omega

/-- SSTATE reads as the number of the session state (R24). -/
theorem sstate_image (s : State) :
    registerImage 0x00 s = some (match s.sstate with | .ready => 0 | .done => 1 | .faulted => 2) := by
  show some (s.sstate.toBits.setWidth 32) = _
  cases s.sstate <;> rfl

/-- BR_ACC's high half is what stands above its low 32 bits. -/
theorem brAcc_high_image (s : State) : registerImage 0x0A s = some ((s.brAcc >>> 32).setWidth 32) := by
  show some ((s.brAcc.extractLsb' 32 7).setWidth 32) = _
  congr 1
  apply BitVec.eq_of_toNat_eq
  have hlt := s.brAcc.isLt
  simp only [BitVec.toNat_setWidth, BitVec.extractLsb'_toNat, BitVec.toNat_ushiftRight, Nat.shiftRight_eq_div_pow]
  omega

/-- Settles O12: each register's image is read off the register map, and the map ends at 0x16. -/
theorem rrdAnswersRegisterImage : Obligations.RrdAnswersRegisterImage := by
  unfold Obligations.RrdAnswersRegisterImage
  intro s
  refine ⟨exec_rrd_of_image (sstate_image s), rfl, rfl, rfl, rfl, rfl, rfl, rfl, rfl, rfl,
    exec_rrd_of_image (brAcc_high_image s), rfl, rfl, rfl, rfl, rfl, rfl, rfl, rfl, rfl, rfl, rfl, rfl, ?_⟩
  intro rn hrn
  exact exec_rrd_of_none (registerImage_reserved hrn s)

end Sys2Proof.Machine
end

section
/-! SUPPORT. What a step runs (R68), and ReadBits in full: how many bytes it fetches, the state it leaves, and all that
it keeps (R142, R144). -/

namespace Sys2Proof.Machine

/-! ### A step runs what comes next (R68, R5) -/

/-- A staged value comes before the command port. -/
theorem nextCode_of_staged {s : State} {v : Staged} (h : s.staged = some v) :
    nextCode s = some (.symbol v.kind v.value, { s with staged := none }) := by
  simp only [nextCode, h]

/-- With no value staged, the first waiting word comes next. -/
theorem nextCode_of_word {s : State} {w : Word} {rest : List Word} (hs : s.staged = none) (hc : s.cmds = w :: rest) :
    nextCode s = some (.command w, { s with cmds := rest }) := by
  simp only [nextCode, hs, hc]

/-- With nothing staged and no word waiting, nothing comes next. -/
theorem nextCode_of_idle {s : State} (hs : s.staged = none) (hc : s.cmds = []) : nextCode s = none := by
  simp only [nextCode, hs, hc]

/-- A step runs the instruction that the next code decodes to. -/
theorem step_of_decode {s s1 : State} {c : Code} {i : Instr} (hn : nextCode s = some (c, s1)) (hd : decode c = .ok i) :
    step s = exec i s1 := by
  simp only [step, hn, hd]

/-- A step with no next code is idle. -/
theorem step_of_idle {s : State} (hn : nextCode s = none) : step s = .next s := by
  simp only [step, hn]

/-- Settles O6: each case of `nextCode` in turn, the word, the staged value and neither. -/
theorem stepRunsDecodedInstruction : Obligations.StepRunsDecodedInstruction := by
  unfold Obligations.StepRunsDecodedInstruction
  exact ⟨fun _ _ _ _ hs hc hd => step_of_decode (nextCode_of_word hs hc) hd,
    fun _ _ _ hs hd => step_of_decode (nextCode_of_staged hs) hd,
    fun _ hs hc => step_of_idle (nextCode_of_idle hs hc)⟩

/-! ### The bytes a read fetches, and its frame (R142, R144) -/

/-- A top-up fetches as many bytes as the missing bits need, or all there are (R142). -/
theorem topUp_input {n : Nat} (hn : n ≤ 56) (input : List Byte) (acc : BitVec 39) (cnt : BitVec 6) :
    (topUp n input acc cnt).input = input.drop ((n - cnt.toNat + 7) / 8) := by
  induction input generalizing acc cnt with
  | nil => simp [topUp]
  | cons b rest ih =>
    simp only [topUp]
    split
    case isTrue h =>
      have hzero : (n - cnt.toNat + 7) / 8 = 0 := by omega
      rw [hzero, List.drop_zero]
    case isFalse h =>
      have hsucc : (n - cnt.toNat + 7) / 8 = (n - (cnt.toNat + 8) + 7) / 8 + 1 := by omega
      rw [ih, cnt_add_eight (by omega), hsucc, List.drop_succ_cons]

/-- The state in which a read that answers ends: the bits buffered and, unless it keeps them, consumed. -/
theorem readBits_ok_state {n : Nat} (hn : n ≤ 56) {keep : Bool} {s t : State} {v : Nat}
    (h : readBits n keep s = .ok v t) : t = if keep then s.toppedUp n else (s.toppedUp n).consume n := by
  rcases readBits_cases hn keep s with ⟨-, -, he⟩ | ⟨-, he⟩
  · rw [he] at h
    cases h
    rfl
  · rw [he] at h
    cases h

/-- A top-up writes nothing but the bit reader. -/
theorem setReader_sameOutsideReader (s : State) (t : TopUp) : SameOutsideReader s (s.setReader t) := by
  simp [SameOutsideReader, SameSession, SameBlock, SameLengths, SameCodes, SameTrees, SameWindow]

/-- Consuming bits writes nothing but the bit reader. -/
theorem consume_sameOutsideReader (s : State) (n : Nat) : SameOutsideReader s (s.consume n) := by
  simp [SameOutsideReader, SameSession, SameBlock, SameLengths, SameCodes, SameTrees, SameWindow]

/-- What a read that answers does to BITPOS, the input, the answer and all else, whether it keeps the bits or
consumes them. -/
theorem readBits_ok_frame {n : Nat} (hn : n ≤ 56) {keep : Bool} {s t : State} {v : Nat}
    (h : readBits n keep s = .ok v t) :
    t.bitpos = (if keep then s.bitpos else s.bitpos + BitVec.ofNat 64 n) ∧
      t.input = s.input.drop ((n - s.brCnt.toNat + 7) / 8) ∧ SameOutsideReader s t ∧ t.resp = s.resp := by
  have hinput := topUp_input hn s.input s.brAcc s.brCnt
  rw [readBits_ok_state hn h]
  cases keep with
  | true => exact ⟨rfl, hinput, setReader_sameOutsideReader s _, rfl⟩
  | false => exact ⟨rfl, hinput, consume_sameOutsideReader (s.toppedUp n) n, rfl⟩

/-- Settles O13: the value and the stream are `readBits_stream`'s, the rest is the frame of a read that answers. -/
theorem readBitsServesStream : Obligations.ReadBitsServesStream := by
  unfold Obligations.ReadBitsServesStream
  intro s n keep hn hr hleft
  obtain ⟨t, hread, hok, hstream⟩ := readBits_stream hn keep hr hleft
  obtain ⟨hpos, hinput, hframe, hresp⟩ := readBits_ok_frame (by omega) hread
  exact ⟨t, hread, hok, hstream, hpos, hinput, hframe, hresp⟩

end Sys2Proof.Machine
end

section
/-! SUPPORT. The opcode map as one table of rows, the two directions of the code, and the operand checks (R91 to R104,
R124). -/

namespace Sys2Proof.Machine

/-! ### A word that is the match of a row under its mask -/

/-- Where a mask is all ones, a matching word has the bits of the match. -/
theorem extractLsb'_of_masked {w mask pattern : Word} (h : w &&& mask = pattern) (start len : Nat)
    (hmask : mask.extractLsb' start len = BitVec.allOnes len) :
    w.extractLsb' start len = pattern.extractLsb' start len := by
  rw [← h, BitVec.extractLsb'_and, hmask, BitVec.and_allOnes]

/-- Every mask of the opcode map covers the opcode, so a matching word has the opcode of its row (R101). -/
theorem opcode_of_masked {w : Word} {r : Word × Word} (hr : r ∈ opcodeMap) (h : w &&& r.2 = r.1) :
    w.extractLsb' 28 4 = r.1.extractLsb' 28 4 := by
  have hmask : ∀ r ∈ opcodeMap, r.2.extractLsb' 28 4 = BitVec.allOnes 4 := by simp [opcodeMap]
  exact extractLsb'_of_masked h 28 4 (hmask r hr)

/-- Every opcode has a row (R101, R102). -/
theorem exists_row_of_opcode (w : Word) : ∃ r ∈ opcodeMap, w.extractLsb' 28 4 = r.1.extractLsb' 28 4 := by
  have hall : ∀ n < 16, ∃ r ∈ opcodeMap, n = (r.1.extractLsb' 28 4).toNat := by decide
  obtain ⟨r, hr, hop⟩ := hall _ (w.extractLsb' 28 4).isLt
  exact ⟨r, hr, BitVec.eq_of_toNat_eq hop⟩

/-- The row of the reserved opcode has no reserved bit: the opcode alone makes a word its match (R102). -/
theorem masked_of_opcode_reserved {w : Word} (h : w.extractLsb' 28 4 = 0xF#4) : w &&& 0xF0000000 = 0xF0000000 := by
  have hw : 0xF#4 ++ w.extractLsb' 0 28 = w := by
    rw [← h]
    exact BitVec.extractLsb'_append_extractLsb' (w := 4) (len := 28)
  have hmask : (0xF0000000 : Word) = 0xF#4 ++ 0#28 := by decide
  rw [hmask, ← hw, BitVec.and_append, BitVec.and_self, BitVec.and_zero]

/-! ### The rows of the opcode map (R92, R101) -/

/-- The command of the row of an opcode, with the fields of the word (R92, R101). -/
def rowCommand (w : Word) : Nat → Instr
  | 0x0 => .nop
  | 0x1 => .srst
  | 0x2 => .brd (w.getLsbD 6) (w.extractLsb' 0 6)
  | 0x3 => .lwr (w.extractLsb' 26 2) (w.extractLsb' 16 9) (w.extractLsb' 0 4)
  | 0x4 => .lrd (w.extractLsb' 26 2) (w.extractLsb' 16 9)
  | 0x5 => .cbld (w.extractLsb' 26 2)
  | 0x6 => .crd (w.extractLsb' 26 2) (w.extractLsb' 16 9)
  | 0x7 => .tclr (w.extractLsb' 26 2)
  | 0x8 => .tins (w.extractLsb' 26 2) (w.extractLsb' 16 9) (w.extractLsb' 0 16)
  | 0x9 => .tbld (w.extractLsb' 26 2)
  | 0xA => .trst (w.extractLsb' 26 2)
  | 0xB => .tadv (w.extractLsb' 26 2) (w.getLsbD 0)
  | 0xC => .dblk
  | 0xD => .dstr
  | 0xE => .rrd (w.extractLsb' 0 8)
  | _ => .reservedOp (w.extractLsb' 0 28)

/-- A row's command: the one of the opcode in its match. -/
def rowInstr (w : Word) (r : Word × Word) : Instr := rowCommand w (r.1.extractLsb' 28 4).toNat

/-- A word of a row's opcode decodes to the row's command, when it is the row's match under its mask (R101, R103). -/
theorem decode_eq_select {w : Word} {r : Word × Word} (hr : r ∈ opcodeMap)
    (hop : w.extractLsb' 28 4 = r.1.extractLsb' 28 4) : decode (.command w) = select w r.2 r.1 (rowInstr w r) := by
  have hfield : (field w 31 28).toNat = (r.1.extractLsb' 28 4).toNat := congrArg BitVec.toNat hop
  simp only [decode, decodeCommand, hfield]
  simp only [opcodeMap, List.mem_cons, List.not_mem_nil, or_false] at hr
  rcases hr with rfl | rfl | rfl | rfl | rfl | rfl | rfl | rfl | rfl | rfl | rfl | rfl | rfl | rfl | rfl | rfl
  on_goal 16 => exact (if_pos (masked_of_opcode_reserved hop)).symm
  all_goals rfl

/-- A word that is the match of a row under its mask decodes to the row's command (R101). -/
theorem decode_of_masked {w : Word} {r : Word × Word} (hr : r ∈ opcodeMap) (h : w &&& r.2 = r.1) :
    decode (.command w) = .ok (rowInstr w r) := by
  rw [decode_eq_select hr (opcode_of_masked hr h)]
  exact if_pos h

/-- A word that decodes is the match of its row under its mask (R101). -/
theorem masked_of_decode {w : Word} {i : Instr} (h : decode (.command w) = .ok i) :
    ∃ r ∈ opcodeMap, w &&& r.2 = r.1 ∧ i = rowInstr w r := by
  obtain ⟨r, hr, hop⟩ := exists_row_of_opcode w
  rw [decode_eq_select hr hop] at h
  refine ⟨r, hr, ?_, (select_eq_ok h).symm⟩
  by_contra hne
  simp [select, hne] at h

/-- Settles O2: each row of the map in turn. -/
theorem opcodeMapSelectsCommand : Obligations.OpcodeMapSelectsCommand := by
  unfold Obligations.OpcodeMapSelectsCommand
  intro w
  exact ⟨decode_of_masked (r := opcodeMap[0]) (by decide), decode_of_masked (r := opcodeMap[1]) (by decide),
    decode_of_masked (r := opcodeMap[2]) (by decide), decode_of_masked (r := opcodeMap[3]) (by decide),
    decode_of_masked (r := opcodeMap[4]) (by decide), decode_of_masked (r := opcodeMap[5]) (by decide),
    decode_of_masked (r := opcodeMap[6]) (by decide), decode_of_masked (r := opcodeMap[7]) (by decide),
    decode_of_masked (r := opcodeMap[8]) (by decide), decode_of_masked (r := opcodeMap[9]) (by decide),
    decode_of_masked (r := opcodeMap[10]) (by decide), decode_of_masked (r := opcodeMap[11]) (by decide),
    decode_of_masked (r := opcodeMap[12]) (by decide), decode_of_masked (r := opcodeMap[13]) (by decide),
    decode_of_masked (r := opcodeMap[14]) (by decide), decode_of_masked (r := opcodeMap[15]) (by decide)⟩

/-! ### Reserved bits (R103) -/

/-- A bit set in a word and in the mask of its row, below the opcode, makes the word no instruction. -/
theorem decode_of_reserved_bit {w : Word} {r : Word × Word} {b : Nat} (hr : r ∈ opcodeMap)
    (hop : w.extractLsb' 28 4 = r.1.extractLsb' 28 4) (hb : b < 28) (hmask : r.2.getLsbD b = true)
    (hbit : w.getLsbD b = true) : decode (.command w) = .error .reservedBits := by
  have hzero : ∀ r ∈ opcodeMap, r.1.extractLsb' 0 28 = 0 := by simp [opcodeMap]
  have hne : w &&& r.2 ≠ r.1 := by
    intro h
    have hset : (r.1.extractLsb' 0 28).getLsbD b = true := by simp [← h, hb, hmask, hbit]
    simp [hzero r hr] at hset
  rw [decode_eq_select hr hop]
  exact if_neg hne

/-- A step whose next code is no instruction rejects it. -/
theorem step_of_reject {s s1 : State} {c : Code} {r : DecodeReject} (hn : nextCode s = some (c, s1))
    (hd : decode c = .error r) : step s = rejectCode r s1 := by
  simp only [step, hn, hd]

/-- Settles O3: the word is rejected for its reserved bit, which is a refusal. -/
theorem reservedBitRefused : Obligations.ReservedBitRefused := by
  unfold Obligations.ReservedBitRefused
  intro s w rest r b hs hc hr hop hb hmask hbit
  exact step_of_reject (nextCode_of_word hs hc) (decode_of_reserved_bit hr hop hb hmask hbit)

/-! ### A word is its fields, and its fields are what the encoder wrote (R92) -/

/-- Two parts together are a field exactly when each is its part of the field. -/
theorem append_eq_extractLsb'_iff {n m k start : Nat} {a : BitVec n} {b : BitVec m} {w : BitVec k} :
    a ++ b = w.extractLsb' start (n + m) ↔ a = w.extractLsb' (start + m) n ∧ b = w.extractLsb' start m := by
  rw [← BitVec.extractLsb'_append_extractLsb'_eq_extractLsb' rfl]
  constructor
  · intro h
    have hhigh := congrArg (BitVec.extractLsb' m n) h
    have hlow := congrArg (BitVec.extractLsb' 0 m) h
    simp only [BitVec.extractLsb'_append_eq_left, BitVec.extractLsb'_append_eq_right] at hhigh hlow
    exact ⟨hhigh, hlow⟩
  · rintro ⟨rfl, rfl⟩
    rfl

/-- A bit is a one-bit field exactly when it is the field's bit. -/
theorem ofBool_eq_extractLsb'_iff {w : Word} {b : Nat} {x : Bool} :
    BitVec.ofBool x = w.extractLsb' b 1 ↔ x = w.getLsbD b := by
  have hfield : w.extractLsb' b 1 = BitVec.ofBool (w.getLsbD b) := by
    ext i hi
    obtain rfl : i = 0 := by omega
    simp
  rw [hfield, BitVec.ofBool_eq_iff_eq]

/-- A word is a code exactly when the code's word is all of it. -/
theorem command_eq_iff {v w : Word} : Code.command v = .command w ↔ v = w.extractLsb' 0 32 := by
  rw [BitVec.extractLsb'_eq_self, Code.command.injEq]

theorem formatZ_eq_iff {op : BitVec 4} {w : Word} :
    formatZ op = .command w ↔ op = w.extractLsb' 28 4 ∧ 0#28 = w.extractLsb' 0 28 := by
  rw [formatZ, command_eq_iff, append_eq_extractLsb'_iff]

theorem formatS_eq_iff {op : BitVec 4} {sel : BitVec 2} {w : Word} : formatS op sel = .command w ↔
    (op = w.extractLsb' 28 4 ∧ sel = w.extractLsb' 26 2) ∧ 0#26 = w.extractLsb' 0 26 := by
  rw [formatS, command_eq_iff, append_eq_extractLsb'_iff, append_eq_extractLsb'_iff]

theorem formatA_eq_iff {op : BitVec 4} {sel : BitVec 2} {idx : BitVec 9} {val : BitVec 4} {w : Word} :
    formatA op sel idx val = .command w ↔ ((((op = w.extractLsb' 28 4 ∧ sel = w.extractLsb' 26 2) ∧
      0#1 = w.extractLsb' 25 1) ∧ idx = w.extractLsb' 16 9) ∧ 0#12 = w.extractLsb' 4 12) ∧ val = w.extractLsb' 0 4 := by
  rw [formatA, command_eq_iff]
  repeat rw [append_eq_extractLsb'_iff]

theorem encode_brd_eq_iff {keep : Bool} {n : BitVec 6} {w : Word} : encode (.brd keep n) = .command w ↔
    ((0x2#4 = w.extractLsb' 28 4 ∧ 0#21 = w.extractLsb' 7 21) ∧ keep = w.getLsbD 6) ∧ n = w.extractLsb' 0 6 := by
  refine command_eq_iff.trans ?_
  repeat rw [append_eq_extractLsb'_iff]
  rw [ofBool_eq_extractLsb'_iff]

theorem encode_tins_eq_iff {sel : BitVec 2} {sym : BitVec 9} {mk : BitVec 16} {w : Word} :
    encode (.tins sel sym mk) = .command w ↔ (((0x8#4 = w.extractLsb' 28 4 ∧ sel = w.extractLsb' 26 2) ∧
      0#1 = w.extractLsb' 25 1) ∧ sym = w.extractLsb' 16 9) ∧ mk = w.extractLsb' 0 16 := by
  refine command_eq_iff.trans ?_
  repeat rw [append_eq_extractLsb'_iff]

theorem encode_tadv_eq_iff {sel : BitVec 2} {bit : Bool} {w : Word} : encode (.tadv sel bit) = .command w ↔
    ((0xB#4 = w.extractLsb' 28 4 ∧ sel = w.extractLsb' 26 2) ∧ 0#25 = w.extractLsb' 1 25) ∧ bit = w.getLsbD 0 := by
  refine command_eq_iff.trans ?_
  repeat rw [append_eq_extractLsb'_iff]
  rw [ofBool_eq_extractLsb'_iff]

theorem encode_rrd_eq_iff {rn : BitVec 8} {w : Word} : encode (.rrd rn) = .command w ↔
    (0xE#4 = w.extractLsb' 28 4 ∧ 0#20 = w.extractLsb' 8 20) ∧ rn = w.extractLsb' 0 8 := by
  refine command_eq_iff.trans ?_
  repeat rw [append_eq_extractLsb'_iff]

theorem encode_reservedOp_eq_iff {low : BitVec 28} {w : Word} : encode (.reservedOp low) = .command w ↔
    0xF#4 = w.extractLsb' 28 4 ∧ low = w.extractLsb' 0 28 := by
  refine command_eq_iff.trans ?_
  repeat rw [append_eq_extractLsb'_iff]

/-! ### Encoding undoes decoding -/

/-- A field that a matching word must have clear is clear (R103). -/
theorem zero_eq_of_masked {w mask pattern : Word} (h : w &&& mask = pattern) (start len : Nat)
    (hclear : mask.extractLsb' start len = BitVec.allOnes len ∧ pattern.extractLsb' start len = 0 := by decide) :
    0#len = w.extractLsb' start len :=
  ((extractLsb'_of_masked h start len hclear.1).trans hclear.2).symm

/-- The code of a row's command, with the fields of a word that is the row's match, is that word: the mask and the
fields leave no bit out. -/
theorem encode_rowInstr {w : Word} {r : Word × Word} (hr : r ∈ opcodeMap) (h : w &&& r.2 = r.1) :
    encode (rowInstr w r) = .command w := by
  have hop := (opcode_of_masked hr h).symm
  simp only [opcodeMap, List.mem_cons, List.not_mem_nil, or_false] at hr
  rcases hr with rfl | rfl | rfl | rfl | rfl | rfl | rfl | rfl | rfl | rfl | rfl | rfl | rfl | rfl | rfl | rfl
  · exact formatZ_eq_iff.mpr ⟨hop, zero_eq_of_masked h 0 28⟩
  · exact formatZ_eq_iff.mpr ⟨hop, zero_eq_of_masked h 0 28⟩
  · exact encode_brd_eq_iff.mpr ⟨⟨⟨hop, zero_eq_of_masked h 7 21⟩, rfl⟩, rfl⟩
  · exact formatA_eq_iff.mpr ⟨⟨⟨⟨⟨hop, rfl⟩, zero_eq_of_masked h 25 1⟩, rfl⟩, zero_eq_of_masked h 4 12⟩, rfl⟩
  · exact formatA_eq_iff.mpr ⟨⟨⟨⟨⟨hop, rfl⟩, zero_eq_of_masked h 25 1⟩, rfl⟩, zero_eq_of_masked h 4 12⟩,
      zero_eq_of_masked h 0 4⟩
  · exact formatS_eq_iff.mpr ⟨⟨hop, rfl⟩, zero_eq_of_masked h 0 26⟩
  · exact formatA_eq_iff.mpr ⟨⟨⟨⟨⟨hop, rfl⟩, zero_eq_of_masked h 25 1⟩, rfl⟩, zero_eq_of_masked h 4 12⟩,
      zero_eq_of_masked h 0 4⟩
  · exact formatS_eq_iff.mpr ⟨⟨hop, rfl⟩, zero_eq_of_masked h 0 26⟩
  · exact encode_tins_eq_iff.mpr ⟨⟨⟨⟨hop, rfl⟩, zero_eq_of_masked h 25 1⟩, rfl⟩, rfl⟩
  · exact formatS_eq_iff.mpr ⟨⟨hop, rfl⟩, zero_eq_of_masked h 0 26⟩
  · exact formatS_eq_iff.mpr ⟨⟨hop, rfl⟩, zero_eq_of_masked h 0 26⟩
  · exact encode_tadv_eq_iff.mpr ⟨⟨⟨hop, rfl⟩, zero_eq_of_masked h 1 25⟩, rfl⟩
  · exact formatZ_eq_iff.mpr ⟨hop, zero_eq_of_masked h 0 28⟩
  · exact formatZ_eq_iff.mpr ⟨hop, zero_eq_of_masked h 0 28⟩
  · exact encode_rrd_eq_iff.mpr ⟨⟨hop, zero_eq_of_masked h 8 20⟩, rfl⟩
  · exact encode_reservedOp_eq_iff.mpr ⟨hop, rfl⟩

/-- A command word that decodes is the code of what it decodes to. -/
theorem encode_eq_of_decode_command {w : Word} {i : Instr} (h : decode (.command w) = .ok i) :
    encode i = .command w := by
  obtain ⟨r, hr, hmasked, rfl⟩ := masked_of_decode h
  exact encode_rowInstr hr hmasked

/-! ### Decoding undoes encoding -/

/-- The code of a command is the match of a row under its mask. -/
theorem exists_row_of_encode {i : Instr} {w : Word} (hi : encode i = .command w) :
    ∃ r ∈ opcodeMap, w &&& r.2 = r.1 := by
  have hlaw : Laws.RowLaw.Statement i := by
    cases i with
    | nop => exact Laws.RowLaw.nop
    | srst => exact Laws.RowLaw.srst
    | brd keep n => exact Laws.RowLaw.brd keep n
    | lwr sel idx val => exact Laws.RowLaw.lwr sel idx val
    | lrd sel idx => exact Laws.RowLaw.lrd sel idx
    | cbld sel => exact Laws.RowLaw.cbld sel
    | crd sel idx => exact Laws.RowLaw.crd sel idx
    | tclr sel => exact Laws.RowLaw.tclr sel
    | tins sel sym mk => exact Laws.RowLaw.tins sel sym mk
    | tbld sel => exact Laws.RowLaw.tbld sel
    | trst sel => exact Laws.RowLaw.trst sel
    | tadv sel bit => exact Laws.RowLaw.tadv sel bit
    | dblk => exact Laws.RowLaw.dblk
    | dstr => exact Laws.RowLaw.dstr
    | rrd rn => exact Laws.RowLaw.rrd rn
    | reservedOp low => exact Laws.RowLaw.reservedOp low
    | _ => cases hi
  simpa only [Laws.RowLaw.Statement, hi] using hlaw

/-- The fields of a command's word are the operands the encoder put there. -/
theorem rowCommand_of_encode {i : Instr} {w : Word} (hi : encode i = .command w) :
    rowCommand w (w.extractLsb' 28 4).toNat = i := by
  cases i with
  | nop | srst | dblk | dstr =>
    obtain ⟨hop, -⟩ := formatZ_eq_iff.mp hi
    rw [← hop]
    rfl
  | brd keep n =>
    obtain ⟨⟨⟨hop, -⟩, hkeep⟩, hn⟩ := encode_brd_eq_iff.mp hi
    rw [← hop, hkeep, hn]
    rfl
  | lwr sel idx val =>
    obtain ⟨⟨⟨⟨⟨hop, hsel⟩, -⟩, hidx⟩, -⟩, hval⟩ := formatA_eq_iff.mp hi
    rw [← hop, hsel, hidx, hval]
    rfl
  | lrd sel idx | crd sel idx =>
    obtain ⟨⟨⟨⟨⟨hop, hsel⟩, -⟩, hidx⟩, -⟩, -⟩ := formatA_eq_iff.mp hi
    rw [← hop, hsel, hidx]
    rfl
  | cbld sel | tclr sel | tbld sel | trst sel =>
    obtain ⟨⟨hop, hsel⟩, -⟩ := formatS_eq_iff.mp hi
    rw [← hop, hsel]
    rfl
  | tins sel sym mk =>
    obtain ⟨⟨⟨⟨hop, hsel⟩, -⟩, hsym⟩, hmk⟩ := encode_tins_eq_iff.mp hi
    rw [← hop, hsel, hsym, hmk]
    rfl
  | tadv sel bit =>
    obtain ⟨⟨⟨hop, hsel⟩, -⟩, hbit⟩ := encode_tadv_eq_iff.mp hi
    rw [← hop, hsel, hbit]
    rfl
  | rrd rn =>
    obtain ⟨⟨hop, -⟩, hrn⟩ := encode_rrd_eq_iff.mp hi
    rw [← hop, hrn]
    rfl
  | reservedOp low =>
    obtain ⟨hop, hlow⟩ := encode_reservedOp_eq_iff.mp hi
    rw [← hop, hlow]
    rfl
  | _ => cases hi

/-- The code of a command decodes to the command: its word is a row's match, and its fields are the operands. -/
theorem decode_command_of_encode {i : Instr} {w : Word} (hi : encode i = .command w) : decode (.command w) = .ok i := by
  obtain ⟨r, hr, hmasked⟩ := exists_row_of_encode hi
  rw [decode_of_masked hr hmasked, rowInstr, ← opcode_of_masked hr hmasked, rowCommand_of_encode hi]

/-- The code of a stream instruction decodes to it: the tables list each under its value (R124). -/
theorem decode_symbol_of_encode {i : Instr} {kind : StreamKind} {v : BitVec 9} (hi : encode i = .symbol kind v) :
    decode (.symbol kind v) = .ok i := by
  cases i with
  | nop | srst | brd | lwr | lrd | cbld | crd | tclr | tins | tbld | trst | tadv | dblk | dstr | rrd | reservedOp =>
    cases hi
  | _ => cases hi; rfl

theorem decode_encode (i : Instr) : decode (encode i) = .ok i := by
  cases hi : encode i with
  | command w => exact decode_command_of_encode hi
  | symbol kind v => exact decode_symbol_of_encode hi

/-! ### Stream values (R124) -/

/-- The instructions of a kind of stream value, in the order of their values (R124). -/
def streamTable : StreamKind → List Instr
  | .btype => btypeInstrs
  | .cl => clInstrs
  | .ll => llInstrs
  | .dist => distInstrs

/-- The bits of a kind of stream value (R124). -/
def streamWidth : StreamKind → Nat
  | .btype => 2
  | .cl => 5
  | .ll => 9
  | .dist => 5

/-- The table of a kind holds, at each index, the instruction encoded as that value. -/
theorem streamTable_map_encode (kind : StreamKind) : (streamTable kind).map encode =
    (List.range (streamTable kind).length).map fun n => .symbol kind (BitVec.ofNat 9 n) := by
  cases kind <;> decide +kernel

theorem encode_of_streamTable {kind : StreamKind} {v : BitVec 9} {i : Instr}
    (h : (streamTable kind)[v.toNat]? = some i) : encode i = .symbol kind v := by
  obtain ⟨hlt, -⟩ := List.getElem?_eq_some_iff.mp h
  have hcode : ((streamTable kind).map encode)[v.toNat]? = some (encode i) := by
    rw [List.getElem?_map, h, Option.map_some]
  rw [streamTable_map_encode, List.getElem?_map, List.getElem?_range hlt, Option.map_some, Option.some.injEq] at hcode
  rw [← hcode, BitVec.ofNat_toNat, BitVec.setWidth_eq]

/-- Masking a value that fits the mask changes nothing. -/
theorem and_mask_of_lt {v : BitVec 9} {n : Nat} (hn : n ≤ 9) (h : v.toNat < 2 ^ n) :
    v &&& BitVec.ofNat 9 (2 ^ n - 1) = v := by
  apply BitVec.eq_of_toNat_eq
  have hpow : 2 ^ n ≤ 2 ^ 9 := Nat.pow_le_pow_right (by decide) hn
  rw [BitVec.toNat_and, BitVec.toNat_ofNat, Nat.mod_eq_of_lt (by omega), Nat.and_two_pow_sub_one_eq_mod,
    Nat.mod_eq_of_lt h]

/-- A value within the bits of its kind is looked up as it stands (R124). -/
theorem streamTable_of_decode_symbol {kind : StreamKind} {v : BitVec 9} {i : Instr}
    (hv : v.toNat < 2 ^ streamWidth kind) (h : decode (.symbol kind v) = .ok i) :
    (streamTable kind)[v.toNat]? = some i := by
  cases kind with
  | btype =>
    have hmask : v &&& 0x3 = v := and_mask_of_lt (n := 2) (by decide) hv
    simp only [decode, decodeSymbolValue, hmask] at h
    split at h <;> cases h
    assumption
  | cl | dist =>
    have hmask : v &&& 0x1F = v := and_mask_of_lt (n := 5) (by decide) hv
    simp only [decode, decodeSymbolValue, hmask] at h
    split at h <;> cases h
    assumption
  | ll =>
    simp only [decode, decodeSymbolValue] at h
    split at h <;> cases h
    assumption

/-- A stream value within the bits of its kind that decodes is the code of what it decodes to. -/
theorem encode_eq_of_decode_symbol {kind : StreamKind} {v : BitVec 9} {i : Instr} (hv : v.toNat < 2 ^ streamWidth kind)
    (h : decode (.symbol kind v) = .ok i) : encode i = .symbol kind v :=
  encode_of_streamTable (streamTable_of_decode_symbol hv h)

/-- Settles O1: decoding undoes encoding by the fields of each format and the tables of the stream, and encoding undoes
decoding because a row's mask and fields, or the index in a table, leave no bit out. -/
theorem decodeUndoesEncode : Obligations.DecodeUndoesEncode := by
  unfold Obligations.DecodeUndoesEncode
  exact ⟨decode_encode, fun _ _ h => encode_eq_of_decode_command h,
    fun v _ h => encode_eq_of_decode_symbol (kind := .ll) v.isLt h,
    fun _ _ hv => ⟨encode_eq_of_decode_symbol hv, encode_eq_of_decode_symbol hv⟩,
    fun _ _ hv => encode_eq_of_decode_symbol hv⟩

/-! ### Operand checks (R104) -/

/-- An index at or above ASIZE is no index operand (R94, R97). -/
theorem indexOperand_of_asize_le {sel : BitVec 2} {k : Sel} {idx : BitVec 9} (hsel : Config.selOf sel = some k)
    (hidx : Config.asize k ≤ idx.toNat) : indexOperand sel idx = none := by
  simp only [indexOperand, selOperand, hsel]
  exact if_neg (by omega)

/-- The alphabet of an index operand is the one SEL names. -/
theorem selOf_of_indexOperand {sel : BitVec 2} {idx : BitVec 9} {k : Sel} {i : Nat}
    (h : indexOperand sel idx = some (k, i)) : Config.selOf sel = some k := by
  simp only [indexOperand, selOperand] at h
  split at h
  · rename_i k' hsel
    split at h
    · cases h
      exact hsel
    · cases h
  · cases h

/-- A marker form below 2 marks no code (R98). -/
theorem markerOperand_of_lt_two (k : Sel) {mk : BitVec 16} (h : mk.toNat < 2) : markerOperand k mk = none :=
  if_pos h

/-- The length of a marker form is the place of its marker (R98). -/
theorem markerLength_eq {mk : BitVec 16} {l c : Nat} (h : mk.toNat = 2 ^ l + c) (hc : c < 2 ^ l) :
    markerLength mk = l := by
  have hlog : 2 ^ l ≤ mk.toNat ∧ mk.toNat < 2 ^ (l + 1) := by
    rw [Nat.pow_succ]
    omega
  exact (Nat.log2_eq_iff (by have := Nat.two_pow_pos l; omega)).mpr hlog

/-- A marked length above LMAX marks no code (R98). -/
theorem markerOperand_of_lmax_lt {k : Sel} {mk : BitVec 16} (h : Config.lmax k < markerLength mk) :
    markerOperand k mk = none := by
  simp only [markerOperand, h, if_true, ite_self]

/-- The commands with an index refuse one that is no index operand. -/
theorem exec_of_indexOperand_none {sel : BitVec 2} {idx : BitVec 9} (h : indexOperand sel idx = none) (val : BitVec 4)
    (mk : BitVec 16) (s : State) :
    exec (.lwr sel idx val) s = .next (s.respond .illegalOperand 0) ∧
    exec (.lrd sel idx) s = .next (s.respond .illegalOperand 0) ∧
    exec (.crd sel idx) s = .next (s.respond .illegalOperand 0) ∧
    exec (.tins sel idx mk) s = .next (s.respond .illegalOperand 0) := by
  refine ⟨?_, ?_, ?_, ?_⟩
  · show execLwr sel idx val s = refuse .illegalOperand s
    simp only [execLwr, h]
  · show execLrd sel idx s = refuse .illegalOperand s
    simp only [execLrd, h]
  · show execCrd sel idx s = refuse .illegalOperand s
    simp only [execCrd, h]
  · show execTins sel idx mk s = refuse .illegalOperand s
    simp only [execTins, h]

/-- LWR refuses a length above LMAX, whatever the index (R95). -/
theorem exec_lwr_of_lmax_lt {sel : BitVec 2} {k : Sel} {val : BitVec 4} (hsel : Config.selOf sel = some k)
    (hval : Config.lmax k < val.toNat) (idx : BitVec 9) (s : State) :
    exec (.lwr sel idx val) s = .next (s.respond .illegalOperand 0) := by
  show execLwr sel idx val s = refuse .illegalOperand s
  cases hidx : indexOperand sel idx with
  | none => simp only [execLwr, hidx]
  | some p =>
    obtain ⟨k', i⟩ := p
    obtain rfl : k = k' := Option.some.inj (hsel.symm.trans (selOf_of_indexOperand hidx))
    simp only [execLwr, hidx]
    exact if_pos hval

/-- BRD refuses to read more than 32 bits (R96). -/
theorem exec_brd_of_lt (keep : Bool) {n : BitVec 6} (hn : 32 < n.toNat) (s : State) :
    exec (.brd keep n) s = .next (s.respond .illegalOperand 0) := if_pos hn

/-- TINS refuses a marker form that marks no code of the alphabet, whatever the symbol (R98). -/
theorem exec_tins_of_markerOperand_none {sel : BitVec 2} {mk : BitVec 16}
    (h : ∀ k, Config.selOf sel = some k → markerOperand k mk = none) (sym : BitVec 9) (s : State) :
    exec (.tins sel sym mk) s = .next (s.respond .illegalOperand 0) := by
  show execTins sel sym mk s = refuse .illegalOperand s
  cases hidx : indexOperand sel sym with
  | none => simp only [execTins, hidx]
  | some p =>
    obtain ⟨k, i⟩ := p
    simp only [execTins, hidx, h k (selOf_of_indexOperand hidx)]

/-- Settles O5: each check in turn; a reserved SEL is no operand of any command. -/
theorem operandOutOfRangeRefused : Obligations.OperandOutOfRangeRefused := by
  unfold Obligations.OperandOutOfRangeRefused
  intro s
  refine ⟨?_, ?_, ?_, fun keep _ hn => exec_brd_of_lt keep hn s, ?_, ?_, ?_⟩
  · intro idx val mk b
    obtain ⟨hlwr, hlrd, hcrd, htins⟩ := exec_of_indexOperand_none (sel := 3) (idx := idx) rfl val mk s
    exact ⟨hlwr, hlrd, rfl, hcrd, rfl, htins, rfl, rfl, rfl⟩
  · intro sel k idx val mk hsel hidx
    exact exec_of_indexOperand_none (indexOperand_of_asize_le hsel hidx) val mk s
  · intro sel k idx val hsel hval
    exact exec_lwr_of_lmax_lt hsel hval idx s
  · intro sel sym mk hmk
    exact exec_tins_of_markerOperand_none (fun k _ => markerOperand_of_lt_two k hmk) sym s
  · intro sel k sym mk l c hsel hmk hc hl
    refine exec_tins_of_markerOperand_none (fun k' hsel' => ?_) sym s
    obtain rfl : k = k' := Option.some.inj (hsel.symm.trans hsel')
    exact markerOperand_of_lmax_lt (by rwa [markerLength_eq hmk hc])
  · intro rn hrn
    exact exec_rrd_of_none (registerImage_reserved hrn s)

end Sys2Proof.Machine
end

section
/-! SUPPORT. The bit reader's commands: BRD from its read, a read that outruns the input, a sequence of reads, the bits
a read leaves buffered, and what BITPOS counts (R141 to R150). -/

namespace Sys2Proof.Machine

/-! ### BRD (R145, R147) -/

/-- The end of a BRD that reads: the value, or the latched end of input with ERR_PHASE = 7 (R145, R147). -/
def finishRead : Res Nat → Host.Outcome State Fault Refusal
  | .ok v s => answer (BitVec.ofNat 32 v) s
  | .err e s => .next (latch e brdPhase s)
  | .stuck => .fault .loopOutlivedInput

/-- Outside FAULTED, BRD of at most 32 bits is its read. -/
theorem exec_brd_of_not_faulted {s : State} (hs : s.sstate ≠ .faulted) (keep : Bool) {n : BitVec 6}
    (hn : n.toNat ≤ 32) : exec (.brd keep n) s = finishRead (readBits n.toNat keep s) := by
  show execBrd keep n s = _
  rw [execBrd, if_neg (Nat.not_lt.mpr hn)]
  cases hstate : s.sstate with
  | faulted => exact (hs hstate).elim
  | ready | done => cases readBits n.toNat keep s <;> rfl

/-- In FAULTED, BRD of at most 32 bits is refused (R147). -/
theorem exec_brd_of_faulted {s : State} (hs : s.sstate = .faulted) (keep : Bool) {n : BitVec 6} (hn : n.toNat ≤ 32) :
    exec (.brd keep n) s = .next (s.respond .sessionFaulted 0) := by
  show execBrd keep n s = refuse .sessionFaulted s
  rw [execBrd, if_neg (Nat.not_lt.mpr hn), hs]

/-- Settles O16: a read of no bits is `readBits_zero`'s, and BRD answers its value. -/
theorem zeroBitReadIsNothing : Obligations.ZeroBitReadIsNothing := by
  unfold Obligations.ZeroBitReadIsNothing
  refine fun s keep => ⟨readBits_zero keep s, fun hs => ?_⟩
  rw [exec_brd_of_not_faulted hs keep (by decide)]
  exact congrArg finishRead (readBits_zero keep s)

/-- Settles O14: BRD answers the value of its read, and the answer is outside all that the statement speaks of. -/
theorem brdReadsBits : Obligations.BrdReadsBits := by
  unfold Obligations.BrdReadsBits
  intro s keep n hs hn hr hleft
  obtain ⟨t, hread, hok, hstream, hpos, hinput, hframe, -⟩ := readBitsServesStream s n.toNat keep hn hr hleft
  have hexec := exec_brd_of_not_faulted hs keep hn
  rw [hread] at hexec
  exact ⟨_, hexec, rfl, hok, hstream, hpos, hinput, hframe⟩

/-! ### A read that outruns the input (R143) -/

theorem readBits_of_bitsLeft_lt {n : Nat} (hn : n ≤ 32) (keep : Bool) {s : State} (h : s.bitsLeft < n) :
    readBits n keep s = .err .unexpectedEndOfInput (s.toppedUp n) := by
  rcases readBits_cases (by omega : n ≤ 56) keep s with ⟨hle, -, -⟩ | ⟨-, he⟩
  · omega
  · exact he

/-- A top-up for more bits than are left fetches every byte. -/
theorem toppedUp_input_of_bitsLeft_lt {n : Nat} (hn : n ≤ 32) {s : State} (h : s.bitsLeft < n) :
    (s.toppedUp n).input = [] := by
  rw [State.bitsLeft] at h
  rw [setReader_input, topUp_input (by omega)]
  exact List.drop_eq_nil_of_le (by omega)

theorem exec_brd_of_bitsLeft_lt {s : State} (hs : s.sstate ≠ .faulted) (keep : Bool) {n : BitVec 6}
    (hn : n.toNat ≤ 32) (h : s.bitsLeft < n.toNat) :
    exec (.brd keep n) s = .next (latch .unexpectedEndOfInput brdPhase (s.toppedUp n.toNat)) := by
  rw [exec_brd_of_not_faulted hs keep hn, readBits_of_bitsLeft_lt hn keep h]
  rfl

/-- The latch writes the context of the error, the session state and the answer, and nothing else (R283). -/
theorem latch_errorLatched (e : Status) (p : BitVec 3) (s : State) : ErrorLatched e p s (latch e p s) where
  code := rfl
  block := rfl
  phase := rfl
  bitpos := rfl
  session := rfl
  answer := rfl
  reader := ⟨rfl, rfl, rfl, rfl⟩
  registers := ⟨rfl, rfl, rfl, rfl⟩
  tables := ⟨⟨rfl, rfl, rfl⟩, ⟨rfl, rfl, rfl⟩, rfl, rfl, rfl⟩
  window := ⟨fun _ => rfl, rfl, rfl, rfl, rfl⟩
  port := rfl

/-- Settles O15: the read ends in the topped-up state, which has the same stream bits and no byte left to fetch; BRD
latches the error over that state. -/
theorem readBitsEndOfInput : Obligations.ReadBitsEndOfInput := by
  unfold Obligations.ReadBitsEndOfInput
  intro s n keep hn hr hleft
  obtain ⟨hstream, hok⟩ := toppedUp_streamBits hn hr
  refine ⟨s.toppedUp n, readBits_of_bitsLeft_lt hn keep hleft, toppedUp_input_of_bitsLeft_lt hn hleft, hok, hstream,
    rfl, setReader_sameOutsideReader s _, rfl, fun hs => ?_⟩
  have htoNat : (BitVec.ofNat 6 n).toNat = n := by
    rw [BitVec.toNat_ofNat]
    omega
  have hexec := exec_brd_of_bitsLeft_lt (n := BitVec.ofNat 6 n) hs keep (by rwa [htoNat]) (by rwa [htoNat])
  rw [htoNat] at hexec
  exact ⟨_, hexec, latch_errorLatched _ _ _⟩

/-! ### The session state (R147, R212, R237) -/

/-- In FAULTED the block commands are refused. -/
theorem exec_blocks_of_faulted {s : State} (hs : s.sstate = .faulted) :
    exec .dblk s = .next (s.respond .sessionFaulted 0) ∧ exec .dstr s = .next (s.respond .sessionFaulted 0) := by
  constructor
  · show execDblk s = refuse .sessionFaulted s
    rw [execDblk, hs]
  · show execDstr s = refuse .sessionFaulted s
    rw [execDstr, hs]

/-- In DONE the stream is finished for the block commands. -/
theorem exec_blocks_of_done {s : State} (hs : s.sstate = .done) :
    exec .dblk s = .next (s.respond .streamFinished 0) ∧ exec .dstr s = .next (s.respond .streamFinished 0) := by
  constructor
  · show execDblk s = refuse .streamFinished s
    rw [execDblk, hs]
  · show execDstr s = refuse .streamFinished s
    rw [execDstr, hs]

/-- Settles O44: the session checks come before any effect, and outside FAULTED BRD reads the bits, which leaves the
session state, or latches the end of the input. -/
theorem streamCommandsDependOnSession : Obligations.StreamCommandsDependOnSession := by
  unfold Obligations.StreamCommandsDependOnSession
  refine fun s => ⟨fun hs => ?_, exec_blocks_of_done,
    fun keep n hn hr => ⟨fun hdone hleft => ?_, fun hdone hleft => ?_, fun hs => ?_⟩⟩
  · obtain ⟨hdblk, hdstr⟩ := exec_blocks_of_faulted hs
    exact ⟨hdblk, hdstr, fun keep n => ⟨exec_brd_of_faulted hs keep, fun hn => exec_brd_of_lt keep hn s⟩⟩
  · obtain ⟨t, hexec, hresp, -, -, -, -, ⟨hsstate, -⟩, -⟩ :=
      brdReadsBits s keep n (by rw [hdone]; decide) hn hr hleft
    exact ⟨t, hexec, hsstate.trans hdone, hresp⟩
  · exact ⟨_, exec_brd_of_bitsLeft_lt (by rw [hdone]; decide) keep hn hleft, rfl, rfl⟩
  · rcases Nat.lt_or_ge s.bitsLeft n.toNat with hleft | hleft
    · exact ⟨_, _, _, exec_brd_of_bitsLeft_lt hs keep hn hleft, rfl, by decide⟩
    · obtain ⟨t, hexec, hresp, -⟩ := brdReadsBits s keep n hs hn hr hleft
      exact ⟨t, _, _, hexec, hresp, by decide⟩

/-! ### A sequence of reads (R148) -/

/-- The number of two lists of bits one after the other has the second in the more significant position. -/
theorem bitsValue_append (bits more : List Bool) :
    bitsValue (bits ++ more) = bitsValue bits + 2 ^ bits.length * bitsValue more := by
  induction bits with
  | nil => simp [bitsValue]
  | cons b rest ih =>
    rw [List.cons_append, bitsValue, bitsValue, ih, List.length_cons, Nat.pow_succ]
    ring

/-- Reads one after the other give the number of all their bits, and leave the stream after them. -/
theorem readAll_stream {ns : List Nat} (hns : ∀ n ∈ ns, n ≤ 32) {s : State} (hr : s.readerOk)
    (h : ns.sum ≤ s.bitsLeft) :
    ∃ t, readAll ns s = .ok (bitsValue (s.streamBits.take ns.sum)) t ∧ t.streamBits = s.streamBits.drop ns.sum := by
  induction ns generalizing s with
  | nil => exact ⟨s, rfl, rfl⟩
  | cons n rest ih =>
    rw [List.sum_cons] at h
    obtain ⟨hn, hrest⟩ := List.forall_mem_cons.mp hns
    obtain ⟨s1, hread, hr1, hs1⟩ := readBits_stream hn false hr (by omega)
    have hleft := readBits_ok_bitsLeft (by omega) hread
    obtain ⟨t, hall, ht⟩ := ih hrest hr1 (by omega)
    replace hs1 : s1.streamBits = s.streamBits.drop n := hs1
    have hlen : (s.streamBits.take n).length = n := by
      rw [List.length_take, streamBits_length]
      omega
    refine ⟨t, ?_, ?_⟩
    · rw [readAll, hread, Res.bind_ok, hall, Res.bind_ok, List.sum_cons, List.take_add, bitsValue_append, hlen, hs1]
    · rw [ht, hs1, List.drop_drop, List.sum_cons]

/-- Settles O17: the reads are `readAll_stream`'s, and a peek before them leaves the stream and the reader's conditions
as they are. -/
theorem splitReadsAgree : Obligations.SplitReadsAgree := by
  unfold Obligations.SplitReadsAgree
  refine fun s ns hr hns hleft => ⟨readAll_stream hns hr hleft, fun p hp hpleft => ?_⟩
  obtain ⟨s', hpeek, hr', hs'⟩ := readBits_stream hp true hr hpleft
  replace hs' : s'.streamBits = s.streamBits := hs'
  obtain ⟨t, hall, ht⟩ := readAll_stream hns hr' (by rwa [← streamBits_length, hs', streamBits_length])
  rw [hs'] at hall ht
  exact ⟨_, s', t, hpeek, hall, ht⟩

/-! ### The bits left buffered (R149) -/

/-- A top-up that fetches stops within a byte of the bits asked for: the last byte was needed. -/
theorem topUp_cnt_lt_of_fetched {n : Nat} (hn : n ≤ 56) (input : List Byte) (acc : BitVec 39) (cnt : BitVec 6)
    (h : (topUp n input acc cnt).input ≠ input) : (topUp n input acc cnt).cnt.toNat < n + 8 := by
  have htotal := topUp_total hn input acc cnt
  have hdrop := congrArg List.length (topUp_input hn input acc cnt)
  have hcnt : cnt.toNat < n := by
    by_contra hge
    exact h (by rw [topUp_of_le _ _ _ (Nat.not_lt.mp hge)])
  rw [List.length_drop] at hdrop
  omega

/-- Settles O18: consuming the bits asked for leaves less than the last byte fetched; without a fetch, or if the bits
are kept, the bound is the reader invariant's. -/
theorem consumingReadLeavesUnderByte : Obligations.ConsumingReadLeavesUnderByte := by
  unfold Obligations.ConsumingReadLeavesUnderByte
  intro s t n v keep hn hread
  refine ⟨?_, fun hr => ?_⟩
  · rintro rfl hfetched
    rcases readBits_cases (by omega : n ≤ 56) false s with ⟨-, hc, he⟩ | ⟨-, he⟩
    · rw [he] at hread
      cases hread
      have hlt : (s.toppedUp n).brCnt.toNat < n + 8 := topUp_cnt_lt_of_fetched (by omega) _ _ _ hfetched
      have hcons : ((s.toppedUp n).consume n).brCnt.toNat = (s.toppedUp n).brCnt.toNat - n := consume_brCnt_toNat hc
      show ((s.toppedUp n).consume n).brCnt.toNat ≤ 7
      omega
    · rw [he] at hread
      cases hread
  · have hkept := readBits_keep_holds readerOk_stepClosed.toCommandClosed hn keep hr
    rw [hread] at hkept
    exact hkept.1

/-! ### What BITPOS counts (R150) -/

/-- With `f` bytes fetched before `s`, the bits consumed and those buffered in `t` are together those of all the bytes
fetched, modulo 2^64 (R31, R142). -/
def FetchedCounted (f : Nat) (s t : State) : Prop :=
  t.input.length ≤ s.input.length ∧
  t.bitpos + BitVec.ofNat 64 t.brCnt.toNat = BitVec.ofNat 64 (8 * (f + (s.input.length - t.input.length)))

/-- The two ways to say what BITPOS counts. -/
theorem bitpos_eq_sub_iff {t : State} {x : BitVec 64} :
    t.bitpos = x - t.brCnt.setWidth 64 ↔ t.bitpos + BitVec.ofNat 64 t.brCnt.toNat = x := by
  rw [BitVec.ofNat_toNat]
  exact BitVec.eq_sub_iff_add_eq

/-- It speaks of the bit reader alone. -/
theorem FetchedCounted_of_reader_eq {f : Nat} {s t u : State} (h : FetchedCounted f s t)
    (hinput : u.input = t.input := by simp) (hcnt : u.brCnt = t.brCnt := by simp)
    (hpos : u.bitpos = t.bitpos := by simp) : FetchedCounted f s u := by
  simpa only [FetchedCounted, hinput, hcnt, hpos] using h

/-- Every byte fetched is eight bits buffered. -/
theorem FetchedCounted_toppedUp {f n : Nat} {s t : State} (hn : n ≤ 56) (h : FetchedCounted f s t) :
    FetchedCounted f s (t.toppedUp n) := by
  obtain ⟨hle, hcount⟩ := h
  have hsuffix : (t.toppedUp n).input.length ≤ t.input.length := (topUp_suffix _ _ _).length_le
  have htotal : 8 * (t.toppedUp n).input.length + (t.toppedUp n).brCnt.toNat =
      8 * t.input.length + t.brCnt.toNat := topUp_total hn _ _ _
  have hcnt : (t.toppedUp n).brCnt.toNat = t.brCnt.toNat + 8 * (t.input.length - (t.toppedUp n).input.length) := by
    omega
  refine ⟨Nat.le_trans hsuffix hle, ?_⟩
  rw [setReader_bitpos, hcnt, BitVec.ofNat_add, ← BitVec.add_assoc, hcount, ← BitVec.ofNat_add]
  congr 1
  omega

/-- Consuming buffered bits keeps the sum of both. -/
theorem FetchedCounted_consume {f n : Nat} {s t : State} (hc : n ≤ t.brCnt.toNat) (h : FetchedCounted f s t) :
    FetchedCounted f s (t.consume n) := by
  obtain ⟨hle, hcount⟩ := h
  refine ⟨hle, ?_⟩
  rw [consume_bitpos, consume_brCnt_toNat hc, BitVec.add_assoc, ← BitVec.ofNat_add, Nat.add_sub_of_le hc]
  exact hcount

theorem FetchedCounted_execClosed (f : Nat) (s : State) : ExecClosed (FetchedCounted f s) where
  setPhase _ _ h := FetchedCounted_of_reader_eq h
  setLoc _ _ h := FetchedCounted_of_reader_eq h
  setBhdr _ _ _ _ h := FetchedCounted_of_reader_eq h
  topUp _ _ hn h := FetchedCounted_toppedUp (by omega) h
  consume _ _ _ hc h := FetchedCounted_consume hc h
  setLen _ _ _ _ h := FetchedCounted_of_reader_eq h
  clearLens _ _ h := FetchedCounted_of_reader_eq h
  buildCodes _ _ h := FetchedCounted_of_reader_eq h
  buildTree _ _ h := FetchedCounted_of_reader_eq h
  resetCursor _ _ h := FetchedCounted_of_reader_eq h
  advance _ _ _ h := FetchedCounted_of_reader_eq h
  append _ _ h := FetchedCounted_of_reader_eq h
  blockDone _ h := FetchedCounted_of_reader_eq h
  respond _ _ _ h := FetchedCounted_of_reader_eq h
  latch _ _ _ _ h := FetchedCounted_of_reader_eq h
  clearTree _ _ h := FetchedCounted_of_reader_eq h
  insertTree _ _ _ _ _ _ _ h := FetchedCounted_of_reader_eq h

/-- Settles O19: of the updates an instruction other than SRST is made of, only the top-up and the consumption of bits
write the reader, and both keep the count; SRST and power-on leave BITPOS and the buffer empty. -/
theorem bitposCountsFetchedBits : Obligations.BitposCountsFetchedBits := by
  unfold Obligations.BitposCountsFetchedBits
  have hreset : State.reset.bitpos = BitVec.ofNat 64 (8 * 0) - State.reset.brCnt.setWidth 64 := rfl
  refine ⟨?_, fun s t hexec => by cases hexec; exact hreset, hreset⟩
  intro i s t f hsrst hpos hexec
  have hstart : FetchedCounted f s s := ⟨Nat.le_refl _, by rw [Nat.sub_self]; exact bitpos_eq_sub_iff.mp hpos⟩
  have hend := exec_leads (FetchedCounted_execClosed f s) hsrst hstart
  rw [hexec] at hend
  exact ⟨hend.1, bitpos_eq_sub_iff.mpr hend.2⟩

end Sys2Proof.Machine
end

section
/-! SUPPORT. Canonical codes: the space the codes of each length fill, what CBLD writes at each symbol, when one
is too large or begins another; and the table commands, which leave the stream alone (R161 to R170). -/

namespace Sys2Proof.Machine

/-! ### The space codes fill (R165, R168) -/

/-- Of the bit strings of length `l`, how many the codes of length at most `l` fill: a code of length `m` begins
`2^(l-m)` of them. -/
def spaceFilled (lens : List Nat) (l : Nat) : Nat :=
  (lens.map fun m => if m = 0 ∨ l < m then 0 else 2 ^ (l - m)).sum

theorem spaceFilled_zero (lens : List Nat) : spaceFilled lens 0 = 0 := by
  have hterm : ∀ m : Nat, (if m = 0 ∨ 0 < m then 0 else 2 ^ (0 - m)) = 0 := fun m => if_pos (by omega)
  simp only [spaceFilled, hterm, List.map_const', List.sum_replicate, smul_zero]

/-- One bit more doubles the space filled, and each code of the new length fills one string more. -/
theorem spaceFilled_succ (lens : List Nat) (l : Nat) :
    spaceFilled lens (l + 1) = 2 * spaceFilled lens l + lens.count (l + 1) := by
  induction lens with
  | nil => rfl
  | cons m rest ih =>
    simp only [spaceFilled, List.map_cons, List.sum_cons, List.count_cons] at ih ⊢
    rw [ih]
    have hterm : (if m = 0 ∨ l + 1 < m then 0 else 2 ^ (l + 1 - m)) =
        2 * (if m = 0 ∨ l < m then 0 else 2 ^ (l - m)) + if m == l + 1 then 1 else 0 := by
      rcases Nat.lt_trichotomy m (l + 1) with hlt | rfl | hgt
      · by_cases hm : m = 0
        · simp [hm]
        · have hexp : l + 1 - m = (l - m) + 1 := by omega
          rw [if_neg (by omega), if_neg (by omega), if_neg (by simp; omega), hexp, Nat.pow_succ]
          omega
      · simp
      · rw [if_pos (by omega), if_pos (by omega), if_neg (by simp; omega)]
    omega

/-- The first code of a length comes after all the space the shorter codes fill (R165). -/
theorem firstCode_succ (lens : List Nat) (l : Nat) : firstCode lens (l + 1) = 2 * spaceFilled lens l := by
  induction l with
  | zero => simp [firstCode, spaceFilled_zero]
  | succ l ih =>
    rw [firstCode, ih, spaceFilled_succ, if_neg (Nat.succ_ne_zero l), Nat.mul_comm]

/-- The last code of a length ends the space filled. -/
theorem firstCode_add_count {lens : List Nat} {l : Nat} (hl : l ≠ 0) :
    firstCode lens l + lens.count l = spaceFilled lens l := by
  obtain ⟨m, rfl⟩ := Nat.exists_eq_succ_of_ne_zero hl
  rw [Nat.succ_eq_add_one, firstCode_succ, spaceFilled_succ]

/-- Longer codes do not take space back. -/
theorem spaceFilled_mul_pow_le (lens : List Nat) (l n : Nat) : spaceFilled lens l * 2 ^ n ≤ spaceFilled lens (l + n) := by
  induction n with
  | zero => simp
  | succ n ih =>
    rw [← Nat.add_assoc, spaceFilled_succ, Nat.pow_succ, ← Nat.mul_assoc]
    omega

/-- The Kraft sum is the space filled at the longest length (R168). -/
theorem kraftSum_eq_spaceFilled {lens : List Nat} (h : ∀ m ∈ lens, m ≤ 15) : kraftSum lens = spaceFilled lens 15 := by
  have hterms : lens.map (fun m => if m = 0 then 0 else 2 ^ (15 - m)) =
      lens.map (fun m => if m = 0 ∨ 15 < m then 0 else 2 ^ (15 - m)) :=
    List.map_congr_left fun m hm => by simp [Nat.not_lt.mpr (h m hm)]
  exact congrArg List.sum hterms

/-- A code fills at most half of the strings of a length, so that `spaceFilled` is bounded (R166). -/
theorem spaceFilled_succ_le (lens : List Nat) (l : Nat) : spaceFilled lens (l + 1) ≤ lens.length * 2 ^ l := by
  have hterm : ∀ x ∈ lens.map fun m => if m = 0 ∨ l + 1 < m then 0 else 2 ^ (l + 1 - m), x ≤ 2 ^ l := by
    intro x hx
    obtain ⟨m, -, rfl⟩ := List.mem_map.mp hx
    split
    · exact Nat.zero_le _
    · exact Nat.pow_le_pow_right (by decide) (by omega)
  simpa [spaceFilled] using List.sum_le_card_nsmul _ _ hterm

/-- In an alphabet of at most 288 symbols the space filled stays below 2^23 (R166). -/
theorem spaceFilled_lt {lens : List Nat} (hlens : lens.length ≤ 288) {l : Nat} (hl : l ≤ 15) :
    spaceFilled lens l < 2 ^ 23 := by
  cases l with
  | zero => simp [spaceFilled_zero]
  | succ l =>
    calc spaceFilled lens (l + 1) ≤ lens.length * 2 ^ l := spaceFilled_succ_le lens l
      _ ≤ 288 * 2 ^ 14 := Nat.mul_le_mul hlens (Nat.pow_le_pow_right (by decide) (by omega))
      _ < 2 ^ 23 := by decide

/-! ### Code values -/

/-- A symbol is not among those below it. -/
theorem count_take_lt {lens : List Nat} {i : Nat} (hi : i < lens.length) :
    (lens.take i).count (lens.getD i 0) < lens.count (lens.getD i 0) := by
  have hget : lens.getD i 0 = lens[i] := by simp [hi]
  calc (lens.take i).count (lens.getD i 0) < (lens.take (i + 1)).count (lens.getD i 0) := by
        rw [← List.take_append_getElem hi, hget, List.count_append, List.count_singleton_self]
        exact Nat.lt_succ_self _
    _ ≤ lens.count (lens.getD i 0) := (List.take_sublist _ _).count_le _

/-- The codes of a length end with the space filled. -/
theorem codeValue_lt_spaceFilled {lens : List Nat} {i : Nat} (hi : i < lens.length) (hne : lens.getD i 0 ≠ 0) :
    codeValue lens i < spaceFilled lens (lens.getD i 0) := by
  rw [← firstCode_add_count hne]
  exact Nat.add_lt_add_left (count_take_lt hi) _

/-- A longer code comes after every string that begins with a shorter one (R167). -/
theorem extended_codeValue_le {lens : List Nat} {i j : Nat} (hi : i < lens.length) (hne : lens.getD i 0 ≠ 0)
    (hlt : lens.getD i 0 < lens.getD j 0) :
    (codeValue lens i + 1) * 2 ^ (lens.getD j 0 - lens.getD i 0) ≤ codeValue lens j := by
  obtain ⟨n, hn⟩ := Nat.exists_eq_add_of_lt hlt
  have hexp : lens.getD j 0 - lens.getD i 0 = n + 1 := by omega
  calc (codeValue lens i + 1) * 2 ^ (lens.getD j 0 - lens.getD i 0)
      ≤ spaceFilled lens (lens.getD i 0) * 2 ^ (n + 1) := by
        rw [hexp]
        exact Nat.mul_le_mul_right _ (codeValue_lt_spaceFilled hi hne)
    _ ≤ 2 * spaceFilled lens (lens.getD i 0 + n) := by
        have := spaceFilled_mul_pow_le lens (lens.getD i 0) n
        rw [Nat.pow_succ, ← Nat.mul_assoc]
        omega
    _ = firstCode lens (lens.getD j 0) := by rw [hn, firstCode_succ]
    _ ≤ codeValue lens j := Nat.le_add_right _ _

/-- Codes of one length move on by the symbols of that length from the lower symbol on (R167). -/
theorem codeValue_eq_add_count {lens : List Nat} {i j : Nat} (hlen : lens.getD i 0 = lens.getD j 0) (hij : i < j) :
    codeValue lens j = codeValue lens i + ((lens.take j).drop i).count (lens.getD i 0) := by
  have hsplit : lens.take j = lens.take i ++ (lens.take j).drop i := by
    have htake : (lens.take j).take i = lens.take i := by rw [List.take_take, Nat.min_eq_left (by omega)]
    rw [← htake, List.take_append_drop]
  rw [codeValue, codeValue, ← hlen, Nat.add_assoc, ← List.count_append, ← hsplit]

theorem codeValue_lt_of_lt {lens : List Nat} {i j : Nat} (hi : i < lens.length) (hlen : lens.getD i 0 = lens.getD j 0)
    (hij : i < j) : codeValue lens i < codeValue lens j := by
  have hmem : lens.getD i 0 ∈ (lens.take j).drop i := by
    have hget : ((lens.take j).drop i)[0]? = some (lens.getD i 0) := by simp [hij, hi]
    exact List.mem_of_getElem? hget
  have hpos := List.count_pos_iff.mpr hmem
  rw [codeValue_eq_add_count hlen hij]
  omega

/-- Two symbols of one length have different codes. -/
theorem codeValue_ne {lens : List Nat} {i j : Nat} (hi : i < lens.length) (hj : j < lens.length)
    (hlen : lens.getD i 0 = lens.getD j 0) (hij : i ≠ j) : codeValue lens i ≠ codeValue lens j := by
  rcases Nat.lt_or_gt_of_ne hij with hlt | hgt
  · exact Nat.ne_of_lt (codeValue_lt_of_lt hi hlen hlt)
  · exact Nat.ne_of_gt (codeValue_lt_of_lt hj hlen.symm hgt)

/-! ### Over-subscription (R168) -/

/-- The last symbol of a length has the last of its codes. -/
theorem exists_last_of_length {lens : List Nat} {l : Nat} (h : l ∈ lens) :
    ∃ i, i < lens.length ∧ lens.getD i 0 = l ∧ (lens.take i).count l + 1 = lens.count l := by
  induction lens with
  | nil => cases h
  | cons m rest ih =>
    by_cases hrest : l ∈ rest
    · obtain ⟨i, hi, hget, hcount⟩ := ih hrest
      refine ⟨i + 1, by simpa using hi, by simpa using hget, ?_⟩
      rw [List.take_succ_cons, List.count_cons, List.count_cons, ← hcount]
      omega
    · obtain rfl : l = m := by simpa [hrest] using h
      exact ⟨0, by simp, by simp, by simp [List.count_eq_zero_of_not_mem hrest]⟩

/-- Where the space filled first exceeds the strings there are, some code of that length has run over. -/
theorem exists_code_too_large {lens : List Nat} {l : Nat} (h : 2 ^ l < spaceFilled lens l) :
    ∃ i, i < lens.length ∧ lens.getD i 0 ≠ 0 ∧ 2 ^ lens.getD i 0 ≤ codeValue lens i := by
  induction l with
  | zero => simp [spaceFilled_zero] at h
  | succ l ih =>
    by_cases hprev : 2 ^ l < spaceFilled lens l
    · exact ih hprev
    · have hcount : lens.count (l + 1) ≠ 0 := by
        intro hzero
        rw [spaceFilled_succ, hzero, Nat.pow_succ] at h
        omega
      obtain ⟨i, hi, hget, hlast⟩ := exists_last_of_length (List.count_pos_iff.mp (Nat.pos_of_ne_zero hcount))
      refine ⟨i, hi, by omega, ?_⟩
      rw [codeValue, hget]
      have hend := firstCode_add_count (lens := lens) (Nat.succ_ne_zero l)
      simp only [Nat.succ_eq_add_one] at hend
      omega

/-- Some code is too large for its length exactly when Kraft's inequality is broken (R168). -/
theorem exists_code_too_large_iff {lens : List Nat} (hle : ∀ m ∈ lens, m ≤ 15) :
    (∃ i, i < lens.length ∧ lens.getD i 0 ≠ 0 ∧ 2 ^ lens.getD i 0 ≤ codeValue lens i) ↔ 2 ^ 15 < kraftSum lens := by
  rw [kraftSum_eq_spaceFilled hle]
  constructor
  · rintro ⟨i, hi, hne, hlarge⟩
    have hlen : lens.getD i 0 ≤ 15 := hle _ (by simp [hi])
    have hfull : 2 ^ lens.getD i 0 < spaceFilled lens (lens.getD i 0) :=
      Nat.lt_of_le_of_lt hlarge (codeValue_lt_spaceFilled hi hne)
    calc 2 ^ 15 = 2 ^ lens.getD i 0 * 2 ^ (15 - lens.getD i 0) := by rw [← Nat.pow_add, Nat.add_sub_cancel' hlen]
      _ < spaceFilled lens (lens.getD i 0) * 2 ^ (15 - lens.getD i 0) :=
        Nat.mul_lt_mul_of_pos_right hfull (Nat.two_pow_pos _)
      _ ≤ spaceFilled lens (lens.getD i 0 + (15 - lens.getD i 0)) := spaceFilled_mul_pow_le _ _ _
      _ = spaceFilled lens 15 := by rw [Nat.add_sub_cancel' hlen]
  · exact exists_code_too_large

/-- Under Kraft's inequality every code fits its length (R168). -/
theorem codeValue_lt_of_kraft {lens : List Nat} (hle : ∀ m ∈ lens, m ≤ 15) (hkraft : kraftSum lens ≤ 2 ^ 15) {i : Nat}
    (hi : i < lens.length) (hne : lens.getD i 0 ≠ 0) : codeValue lens i < 2 ^ lens.getD i 0 := by
  by_contra hlarge
  exact Nat.not_lt.mpr hkraft ((exists_code_too_large_iff hle).mp ⟨i, hi, hne, Nat.not_lt.mp hlarge⟩)

/-! ### Codes that begin another (R16, R168) -/

theorem codeBits_length (l c : Nat) : (codeBits l c).length = l := by simp [codeBits]

/-- Counted from its end, a code's bits are those of its value. -/
theorem codeBits_getElem? {l c b : Nat} (hb : b < l) : (codeBits l c)[l - 1 - b]? = some (c.testBit b) := by
  have hplace : l - 1 - (l - 1 - b) = b := by omega
  simp [codeBits, show l - 1 - b < l by omega, hplace]

/-- A code that begins another is the other without its low bits. -/
theorem div_eq_of_codeBits_isPrefix {l c l' c' : Nat} (hc : c < 2 ^ l) (hc' : c' < 2 ^ l')
    (h : codeBits l c <+: codeBits l' c') : l ≤ l' ∧ c' / 2 ^ (l' - l) = c := by
  have hle : l ≤ l' := by simpa [codeBits_length] using h.length_le
  refine ⟨hle, Nat.eq_of_testBit_eq fun b => ?_⟩
  rw [Nat.testBit_div_two_pow]
  by_cases hb : b < l
  · have hplace : l' - 1 - (b + (l' - l)) = l - 1 - b := by omega
    have hlong := codeBits_getElem? (c := c') (show b + (l' - l) < l' by omega)
    obtain ⟨more, hmore⟩ := h
    rw [hplace, ← hmore, List.getElem?_append_left (by rw [codeBits_length]; omega), codeBits_getElem? hb] at hlong
    exact (Option.some.inj hlong).symm
  · rw [Nat.testBit_lt_two_pow (Nat.lt_of_lt_of_le hc (Nat.pow_le_pow_right (by decide) (by omega))),
      Nat.testBit_lt_two_pow (Nat.lt_of_lt_of_le hc' (Nat.pow_le_pow_right (by decide) (by omega)))]

/-- Under Kraft's inequality no canonical code begins another (R168). -/
theorem codeBits_codeValue_not_isPrefix {lens : List Nat} (hle : ∀ m ∈ lens, m ≤ 15) (hkraft : kraftSum lens ≤ 2 ^ 15)
    {i j : Nat} (hi : i < lens.length) (hj : j < lens.length) (hij : i ≠ j) (hnei : lens.getD i 0 ≠ 0)
    (hnej : lens.getD j 0 ≠ 0) :
    ¬ codeBits (lens.getD i 0) (codeValue lens i) <+: codeBits (lens.getD j 0) (codeValue lens j) := by
  intro hbegins
  obtain ⟨hlen, hdiv⟩ := div_eq_of_codeBits_isPrefix (codeValue_lt_of_kraft hle hkraft hi hnei)
    (codeValue_lt_of_kraft hle hkraft hj hnej) hbegins
  rcases Nat.lt_or_eq_of_le hlen with hlt | heq
  · have hbeyond := (Nat.le_div_iff_mul_le (Nat.two_pow_pos _)).mpr (extended_codeValue_le hi hnei hlt)
    omega
  · rw [heq, Nat.sub_self, Nat.pow_zero, Nat.div_one] at hdiv
    exact codeValue_ne hi hj heq hij hdiv.symm

/-! ### What CBLD writes (R164, R165) -/

theorem exec_cbld {sel : BitVec 2} {k : Sel} (hsel : Config.selOf sel = some k) (s : State) :
    exec (.cbld sel) s = .next ((s.buildCodes k).respond .ok 0) := by
  show execCbld sel s = _
  simp only [execCbld, selOperand, hsel, answer]

theorem lens_getD_eq_zero_iff {s : State} {k : Sel} {i : Nat} : (s.lens k).getD i 0 = 0 ↔ s.lenAt k i = 0 := by
  rw [lens_getD]
  exact BitVec.toNat_inj (y := 0)

/-- The canonical entry of a symbol with a length is its code; one without has none (R165). -/
theorem buildCodes_codeAt (s : State) {k : Sel} {i : Nat} (hi : i < Config.asize k) :
    (s.buildCodes k).codeAt k i = if s.lenAt k i = 0 then { clen := 0, cval := 0 }
      else { clen := s.lenAt k i, cval := BitVec.ofNat 24 (codeValue (s.lens k) i) } := by
  have hentry := canonicalCodes_getElem? (s.lens k) i (by rwa [lens_length]) (lens_le s k)
  rw [← codes_getD, buildCodes_codes, List.getD_eq_getElem?_getD, hentry, Option.getD_some]
  simp only [lens_getD_eq_zero_iff]
  rw [lens_getD, BitVec.ofNat_toNat, BitVec.setWidth_eq]

theorem buildCodes_clen (s : State) {k : Sel} {i : Nat} (hi : i < Config.asize k) :
    ((s.buildCodes k).codeAt k i).clen = s.lenAt k i := by
  rw [buildCodes_codeAt s hi]
  split
  case isTrue hzero => exact hzero.symm
  case isFalse => rfl

theorem lens_length_le (s : State) (k : Sel) : (s.lens k).length ≤ 288 := by
  rw [lens_length]
  cases k <;> decide

/-- Every code value is below 2^23 (R166). -/
theorem codeValue_lens_lt {s : State} {k : Sel} {i : Nat} (hi : i < Config.asize k) (hne : s.lenAt k i ≠ 0) :
    codeValue (s.lens k) i < 2 ^ 23 := by
  have hfilled := codeValue_lt_spaceFilled (by rwa [lens_length]) (mt lens_getD_eq_zero_iff.mp hne)
  refine Nat.lt_trans hfilled (spaceFilled_lt (lens_length_le s k) ?_)
  rw [lens_getD]
  exact Nat.le_of_lt_succ (s.lenAt k i).isLt

/-- So the entry holds it exactly. -/
theorem buildCodes_cval {s : State} {k : Sel} {i : Nat} (hi : i < Config.asize k) (hne : s.lenAt k i ≠ 0) :
    ((s.buildCodes k).codeAt k i).cval.toNat = codeValue (s.lens k) i := by
  have hlt := codeValue_lens_lt hi hne
  rw [buildCodes_codeAt s hi, if_neg hne, BitVec.toNat_ofNat]
  exact Nat.mod_eq_of_lt (by omega)

/-- Some entry of the table is too large for its length exactly when Kraft's inequality is broken (R168). -/
theorem buildCodes_too_large_iff (s : State) (k : Sel) :
    (∃ i, i < Config.asize k ∧ ((s.buildCodes k).codeAt k i).clen ≠ 0 ∧
      2 ^ ((s.buildCodes k).codeAt k i).clen.toNat ≤ ((s.buildCodes k).codeAt k i).cval.toNat) ↔
      2 ^ 15 < kraftSum (s.lens k) := by
  rw [← exists_code_too_large_iff (lens_le s k), lens_length]
  refine exists_congr fun i => and_congr_right fun hi => ?_
  rw [buildCodes_clen s hi, Ne, Ne, lens_getD_eq_zero_iff, lens_getD]
  exact and_congr_right fun hne => by rw [buildCodes_cval hi hne]

/-! ### Writes to the tables leave the stream alone (R161, R170, R185) -/

theorem SameStream_refl (s : State) : SameStream s s := by
  simp [SameStream, SameSession, SameReader, SameBlock, SameWindow]

theorem SameStream_respond {s t : State} (h : SameStream s t) (e : Status) (r : Word) : SameStream s (t.respond e r) :=
  h

theorem setLen_sameStream (s : State) (k : Sel) (i : Nat) (v : BitVec 4) : SameStream s (s.setLen k i v) := by
  simp [SameStream, SameSession, SameReader, SameBlock, SameWindow]

theorem buildCodes_sameStream (s : State) (k : Sel) : SameStream s (s.buildCodes k) := by
  simp [SameStream, SameSession, SameReader, SameBlock, SameWindow]

theorem setTree_sameStream (s : State) (k : Sel) (t : Tree) : SameStream s (s.setTree k t) := by
  simp [SameStream, SameSession, SameReader, SameBlock, SameWindow]

/-! ### TBLD of a table with a code too large (R187, R188) -/

/-- TBLD answers OK, or the error that stopped the build, and leaves the tree as far as it was built (R187, R188). -/
theorem exec_tbld {sel : BitVec 2} {k : Sel} (hsel : Config.selOf sel = some k) (s : State) :
    exec (.tbld sel) s =
      .next ((s.setTree k (Tree.build (Config.nodecap k) (s.codes k) 0 Tree.empty).2).respond
        ((Tree.build (Config.nodecap k) (s.codes k) 0 Tree.empty).1.getD .ok) 0) := by
  show execTbld sel s = _
  rcases hbuild : Tree.build (Config.nodecap k) (s.codes k) 0 Tree.empty with ⟨_ | e, t⟩
  all_goals simp only [execTbld, selOperand, hsel, buildTree, hbuild, answer, refuse, Option.getD]

/-- A build does not get past a code too large for its length (R187). -/
theorem build_ne_none_of_code_too_large (cap : Nat) {es : List CodeEntry} {e : CodeEntry} (he : e ∈ es)
    (hne : e.clen ≠ 0) (hlarge : 2 ^ e.clen.toNat ≤ e.cval.toNat) (i : Nat) (t : Tree) :
    (Tree.build cap es i t).1 ≠ none := by
  induction es generalizing i t with
  | nil => cases he
  | cons c rest ih =>
    simp only [Tree.build]
    split
    case isTrue hzero =>
      exact ih ((List.mem_cons.mp he).resolve_left fun heq => hne (heq ▸ hzero)) _ _
    case isFalse =>
      split
      case isTrue => exact Option.some_ne_none _
      case isFalse hfits =>
        have hrest := (List.mem_cons.mp he).resolve_left fun heq => hfits (heq ▸ hlarge)
        split
        · exact ih hrest _ _
        all_goals exact Option.some_ne_none _

/-- So TBLD does not answer OK. -/
theorem exec_tbld_of_code_too_large {sel : BitVec 2} {k : Sel} (hsel : Config.selOf sel = some k) {s : State} {i : Nat}
    (hi : i < Config.asize k) (hne : (s.codeAt k i).clen ≠ 0)
    (hlarge : 2 ^ (s.codeAt k i).clen.toNat ≤ (s.codeAt k i).cval.toNat) :
    ∃ u e, exec (.tbld sel) s = .next u ∧ u.resp = some { status := e, result := 0 } ∧ e ≠ .ok := by
  have hmem : s.codeAt k i ∈ s.codes k := by
    rw [← codes_length s] at hi
    rw [← codes_getD, List.getD_eq_getElem _ _ hi]
    exact List.getElem_mem hi
  have hstop := build_ne_none_of_code_too_large (Config.nodecap k) hmem hne hlarge 0 Tree.empty
  obtain ⟨e, he⟩ := Option.ne_none_iff_exists'.mp hstop
  refine ⟨_, e, exec_tbld hsel s, by rw [respond_resp, he, Option.getD_some], ?_⟩
  rintro rfl
  exact (build_raises _ _ _ _ he).code_ne rfl

/-! ### Which commands touch the stream (R161, R170, R185, R188) -/

/-- A command but SRST, BRD, DBLK and DSTR writes one length, one code table or one tree, or nothing, and answers. -/
theorem tableCommand_leads {i : Instr} {w : Word} (hi : encode i = .command w) (hsrst : i ≠ .srst) (hdblk : i ≠ .dblk)
    (hdstr : i ≠ .dstr) (hbrd : ∀ keep n, i ≠ .brd keep n) (s : State) : Leads (SameStream s) (exec i s) := by
  have hsame := SameStream_refl s
  cases i with
  | nop | reservedOp => exact hsame
  | srst => exact (hsrst rfl).elim
  | brd keep n => exact (hbrd keep n rfl).elim
  | dblk => exact (hdblk rfl).elim
  | dstr => exact (hdstr rfl).elim
  | lwr sel idx val =>
    show Leads _ (execLwr sel idx val s)
    simp only [execLwr]
    split
    · exact hsame
    · split
      · exact hsame
      · exact setLen_sameStream s _ _ val
  | lrd sel idx =>
    show Leads _ (execLrd sel idx s)
    simp only [execLrd]
    split <;> exact hsame
  | cbld sel =>
    show Leads _ (execCbld sel s)
    simp only [execCbld]
    split
    exacts [hsame, buildCodes_sameStream s _]
  | crd sel idx =>
    show Leads _ (execCrd sel idx s)
    simp only [execCrd]
    split <;> exact hsame
  | tclr sel =>
    show Leads _ (execTclr sel s)
    simp only [execTclr]
    split
    exacts [hsame, setTree_sameStream s _ _]
  | tins sel sym mk =>
    show Leads _ (execTins sel sym mk s)
    simp only [execTins]
    split
    · exact hsame
    · split
      · exact hsame
      · split
        · exact setTree_sameStream s _ _
        all_goals exact hsame
  | tbld sel =>
    cases hsel : Config.selOf sel with
    | none =>
      show Leads _ (execTbld sel s)
      simp only [execTbld, selOperand, hsel]
      exact hsame
    | some k =>
      rw [exec_tbld hsel]
      exact setTree_sameStream s k _
  | trst sel =>
    show Leads _ (execTrst sel s)
    simp only [execTrst]
    split
    exacts [hsame, setTree_sameStream s _ _]
  | tadv sel bit =>
    show Leads _ (execTadv sel bit s)
    simp only [execTadv]
    split
    exacts [hsame, setTree_sameStream s _ _]
  | rrd rn =>
    show Leads _ (execRrd rn s)
    simp only [execRrd]
    split <;> exact hsame
  | _ => cases hi

/-- Settles O55: each of these commands answers with one write to a table or a tree, and no such write touches the
stream. -/
theorem tableCommandsKeepStream : Obligations.TableCommandsKeepStream := by
  unfold Obligations.TableCommandsKeepStream
  intro s t i w hi hsrst hdblk hdstr hbrd hexec
  have hsame := tableCommand_leads hi hsrst hdblk hdstr hbrd s
  rwa [hexec] at hsame

/-! ### The canonical commands -/

/-- Settles O24: the code table's entries are the code values, which fit their lengths exactly when the space filled
does; a table with one that does not stops TBLD at it. -/
theorem overSubscribedIffKraftBroken : Obligations.OverSubscribedIffKraftBroken := by
  unfold Obligations.OverSubscribedIffKraftBroken
  intro s t sel k hsel hexec
  rw [exec_cbld hsel] at hexec
  obtain rfl := Host.Outcome.next.inj hexec
  simp only [respond_codeAt]
  refine ⟨buildCodes_too_large_iff s k, fun hkraft i j hi hj hij hnei hnej => ?_, fun hkraft => ?_⟩
  · rw [buildCodes_clen s hi] at hnei ⊢
    rw [buildCodes_clen s hj] at hnej ⊢
    rw [buildCodes_cval hi hnei, buildCodes_cval hj hnej, ← lens_getD, ← lens_getD]
    exact codeBits_codeValue_not_isPrefix (lens_le s k) hkraft (by rwa [lens_length]) (by rwa [lens_length]) hij
      (mt lens_getD_eq_zero_iff.mp hnei) (mt lens_getD_eq_zero_iff.mp hnej)
  · obtain ⟨i, hi, hne, hlarge⟩ := (buildCodes_too_large_iff s k).mpr hkraft
    exact exec_tbld_of_code_too_large hsel hi (by simpa using hne) (by simpa using hlarge)

/-- Settles O22: CBLD writes the canonical codes, which the space filled bounds, to the one table. -/
theorem cbldAssignsCanonicalCodes : Obligations.CbldAssignsCanonicalCodes := by
  unfold Obligations.CbldAssignsCanonicalCodes
  intro s sel k hsel
  refine ⟨_, exec_cbld hsel s, rfl, fun i hi => ⟨fun hzero => ?_, fun hne => ?_⟩, fun l h1 h15 => ?_, fun j hj => ?_,
    ?_, ?_, SameStream_respond (buildCodes_sameStream s k) _ _⟩
  · rw [respond_codeAt, buildCodes_codeAt s hi, if_pos hzero]
  · rw [respond_codeAt]
    exact ⟨buildCodes_clen s hi, buildCodes_cval hi hne, codeValue_lens_lt hi hne⟩
  · rw [firstCode_add_count (by omega)]
    exact spaceFilled_lt (lens_length_le s k) h15
  · rw [respond_codes, buildCodes_codes_other s k j hj]
  · simp [SameLengths]
  · simp [SameTrees]

/-- Settles O23: the entries are the code values, which move on by one from symbol to symbol of a length and start
after the extended codes of the length below. -/
theorem codesAscendWithSymbol : Obligations.CodesAscendWithSymbol := by
  unfold Obligations.CodesAscendWithSymbol
  intro s t sel k i j hsel hexec hi hj hnei hnej
  rw [exec_cbld hsel] at hexec
  obtain rfl := Host.Outcome.next.inj hexec
  rw [respond_codeAt, respond_codeAt, buildCodes_cval hi hnei, buildCodes_cval hj hnej]
  have hlens : s.lenAt k i = s.lenAt k j → (s.lens k).getD i 0 = (s.lens k).getD j 0 := fun heq => by
    rw [lens_getD, lens_getD, heq]
  refine ⟨fun heq hij => ?_, fun heq hij => ?_, fun hsucc b => ?_⟩
  · rw [codeValue_eq_add_count (hlens heq) hij, lens_getD]
  · exact codeValue_lt_of_lt (by rwa [lens_length]) (hlens heq) hij
  · rw [← lens_getD, ← lens_getD] at hsucc
    have hext := extended_codeValue_le (i := j) (j := i) (by rwa [lens_length]) (mt lens_getD_eq_zero_iff.mp hnej)
      (by omega)
    rw [← hsucc, Nat.add_sub_cancel_left, Nat.pow_one] at hext
    have hbit := b.toNat_le
    omega

/-- An index below ASIZE is an index operand (R94). -/
theorem indexOperand_of_lt {sel : BitVec 2} {k : Sel} {idx : BitVec 9} (hsel : Config.selOf sel = some k)
    (hidx : idx.toNat < Config.asize k) : indexOperand sel idx = some (k, idx.toNat) := by
  simp only [indexOperand, selOperand, hsel]
  exact if_pos hidx

/-- Settles O20: with its operands in range LWR is one write to LEN. -/
theorem lwrWritesOneLength : Obligations.LwrWritesOneLength := by
  unfold Obligations.LwrWritesOneLength
  intro s sel k idx val hsel hidx hval
  have hexec : exec (.lwr sel idx val) s = .next ((s.setLen k idx.toNat val).respond .ok 0) := by
    show execLwr sel idx val s = _
    simp only [execLwr, indexOperand_of_lt hsel hidx]
    exact if_neg (Nat.not_lt.mpr hval)
  refine ⟨_, hexec, rfl, ?_, fun j m hother => ?_, ?_, ?_, SameStream_respond (setLen_sameStream s k _ val) _ _⟩
  · rw [respond_lenAt, lenAt_setLen_same s k _ val hidx hval]
  · rw [respond_lenAt, lenAt_setLen_other s k j _ m val hother]
  · simp [SameCodes]
  · simp [SameTrees]

/-- The result word of CRD is CLEN above the 24 bits of CVAL (R105). -/
theorem codeEntry_image (e : CodeEntry) : e.image = (e.clen.setWidth 32 <<< 24) ||| e.cval.setWidth 32 := by
  apply BitVec.eq_of_getLsbD_eq
  intro n hn
  simp only [CodeEntry.image, BitVec.getLsbD_append, BitVec.getLsbD_or, BitVec.getLsbD_shiftLeft,
    BitVec.getLsbD_setWidth]
  by_cases hlow : n < 24
  · simp [hlow, hn]
  · have hcval : e.cval.getLsbD n = false := BitVec.getLsbD_of_ge _ _ (by omega)
    have hin : n - 24 < 32 := by omega
    by_cases hmid : n - 24 < 4
    · simp [hlow, hn, hcval, hin, hmid]
    · have hclen : e.clen.getLsbD (n - 24) = false := BitVec.getLsbD_of_ge _ _ (by omega)
      simp [hlow, hcval, hclen]

/-- Settles O21: with its operands in range each command is one read. -/
theorem lrdCrdReadOneEntry : Obligations.LrdCrdReadOneEntry := by
  unfold Obligations.LrdCrdReadOneEntry
  intro s sel k idx hsel hidx
  constructor
  · show execLrd sel idx s = _
    simp only [execLrd, indexOperand_of_lt hsel hidx, answer]
  · show execCrd sel idx s = _
    simp only [execCrd, indexOperand_of_lt hsel hidx, answer, codeEntry_image]

/-- Settles O7: the decoder is run on each of the fixed words and values. -/
theorem sampleWordsDecode : Obligations.SampleWordsDecode := by
  unfold Obligations.SampleWordsDecode
  exact ⟨rfl, rfl, rfl, rfl, rfl, rfl, rfl, rfl, rfl, rfl, rfl, rfl, rfl, rfl, rfl, rfl, rfl, rfl, rfl, rfl, rfl⟩

end Sys2Proof.Machine
end

section
/-! SUPPORT. Paths in a tree that meets the tree invariants: every allocated node has one path from the root, so that
the paths count the nodes (R38 to R41, R186). -/

namespace Sys2Proof.Machine

/-! ### Walks -/

/-- A walk along two lists is the walk along the second from where the first leads. -/
theorem walk_append_eq_bind (t : Tree) (x : BitVec 12) (bits more : List Bool) :
    t.walk x (bits ++ more) = (t.walk x bits).bind fun y => t.walk y more := by
  induction bits generalizing x with
  | nil => rfl
  | cons b rest ih =>
    simp only [List.cons_append, Tree.walk]
    split
    · exact ih _
    · rfl

theorem walk_append_of_walk {t : Tree} {x y : BitVec 12} {bits : List Bool} (h : t.walk x bits = some y)
    (more : List Bool) : t.walk x (bits ++ more) = t.walk y more := by
  rw [walk_append_eq_bind, h, Option.bind_some]

/-- A walk's first step is to a child. -/
theorem walk_cons_eq_bind (t : Tree) (x : BitVec 12) (b : Bool) (rest : List Bool) :
    t.walk x (b :: rest) = ((t.node x).child b).bind fun y => t.walk y rest := by
  simp only [Tree.walk]
  cases (t.node x).child b <;> rfl

theorem walk_cons_of_child {t : Tree} {x y : BitVec 12} {b : Bool} (h : (t.node x).child b = some y)
    (rest : List Bool) : t.walk x (b :: rest) = t.walk y rest := by
  rw [walk_cons_eq_bind, h, Option.bind_some]

theorem walk_singleton (t : Tree) (x : BitVec 12) (b : Bool) : t.walk x [b] = (t.node x).child b := by
  cases h : (t.node x).child b <;> simp [h, Tree.walk]

/-- A walk's last step is to a child of where the bits before lead. -/
theorem walk_concat_iff {t : Tree} {x z : BitVec 12} {bits : List Bool} {b : Bool} :
    t.walk x (bits ++ [b]) = some z ↔ ∃ y, t.walk x bits = some y ∧ (t.node y).child b = some z := by
  simp only [walk_append_eq_bind, walk_singleton, Option.bind_eq_some_iff]

/-- The bits before those of a walk lead somewhere too. -/
theorem exists_walk_of_isPrefix {t : Tree} {x z : BitVec 12} {bits word : List Bool} (h : bits <+: word)
    (hz : t.walk x word = some z) : ∃ y, t.walk x bits = some y := by
  obtain ⟨more, rfl⟩ := h
  rw [walk_append_eq_bind] at hz
  obtain ⟨y, hy, -⟩ := Option.bind_eq_some_iff.mp hz
  exact ⟨y, hy⟩

/-- A walk goes along all its bits, or stops before the first without a child. -/
theorem exists_walk_or_stop (t : Tree) (x : BitVec 12) (bits : List Bool) :
    (∃ y, t.walk x bits = some y) ∨
    ∃ before b after y, bits = before ++ b :: after ∧ t.walk x before = some y ∧ (t.node y).child b = none := by
  induction bits generalizing x with
  | nil => exact .inl ⟨x, rfl⟩
  | cons b rest ih =>
    cases hchild : (t.node x).child b with
    | none => exact .inr ⟨[], b, rest, x, rfl, rfl, hchild⟩
    | some z =>
      rcases ih z with ⟨y, hy⟩ | ⟨before, d, after, y, rfl, hy, hnone⟩
      · exact .inl ⟨y, by rw [walk_cons_of_child hchild, hy]⟩
      · exact .inr ⟨b :: before, d, after, y, rfl, by rw [walk_cons_of_child hchild, hy], hnone⟩

/-! ### Paths from the root -/

section
variable {cap : Nat} {t : Tree} (h : t.wf cap)
include h

/-- A walk from an allocated node leads to one (R41). -/
theorem walk_allocated {x y : BitVec 12} {bits : List Bool} (hx : x.toNat < t.nodes.length)
    (hy : t.walk x bits = some y) : y.toNat < t.nodes.length := by
  induction bits using List.reverseRecOn generalizing y with
  | nil =>
    obtain rfl : x = y := Option.some.inj hy
    exact hx
  | append_singleton rest b ih =>
    obtain ⟨z, hz, hchild⟩ := walk_concat_iff.mp hy
    exact (h.child_later z b y (ih hz) hchild).2

/-- Every allocated node has a path from the root. -/
theorem exists_path {y : BitVec 12} (hy : y.toNat < t.nodes.length) : ∃ bits, t.walk 0 bits = some y := by
  induction hn : y.toNat using Nat.strong_induction_on generalizing y with
  | _ n ih =>
    by_cases h0 : y = 0
    · exact ⟨[], by rw [h0]; rfl⟩
    · have hpos : 0 < y.toNat := Nat.pos_of_ne_zero fun he => h0 (BitVec.eq_of_toNat_eq he)
      obtain ⟨x, b, hx, hchild⟩ := h.has_parent y hpos hy
      obtain ⟨bits, hbits⟩ := ih x.toNat (by have := (h.child_later x b y hx hchild).1; omega) hx rfl
      exact ⟨bits ++ [b], walk_concat_iff.mpr ⟨x, hbits, hchild⟩⟩

/-- The root is no node's child. -/
theorem child_ne_root {x y : BitVec 12} {b : Bool} (hx : x.toNat < t.nodes.length)
    (hchild : (t.node x).child b = some y) : y ≠ 0 := by
  rintro rfl
  exact absurd (h.child_later x b 0 hx hchild).1 (Nat.not_lt_zero _)

/-- It has only one. -/
theorem path_unique {y : BitVec 12} {bits word : List Bool} (hbits : t.walk 0 bits = some y)
    (hword : t.walk 0 word = some y) : bits = word := by
  have hroot := root_allocated h
  induction bits using List.reverseRecOn generalizing y word with
  | nil =>
    obtain rfl : 0 = y := Option.some.inj hbits
    induction word using List.reverseRecOn with
    | nil => rfl
    | append_singleton rest b _ =>
      obtain ⟨x, hx, hchild⟩ := walk_concat_iff.mp hword
      exact absurd rfl (child_ne_root h (walk_allocated h hroot hx) hchild)
  | append_singleton rest b ih =>
    obtain ⟨x, hx, hchild⟩ := walk_concat_iff.mp hbits
    have hxlt := walk_allocated h hroot hx
    induction word using List.reverseRecOn with
    | nil =>
      obtain rfl : 0 = y := Option.some.inj hword
      exact absurd rfl (child_ne_root h hxlt hchild)
    | append_singleton rest' b' _ =>
      obtain ⟨x', hx', hchild'⟩ := walk_concat_iff.mp hword
      obtain ⟨rfl, rfl⟩ := h.one_parent x x' b b' y hxlt (walk_allocated h hroot hx') hchild hchild'
      rw [ih hx hx']

end

/-! ### Counting nodes by their paths (R186) -/

/-- There are as many bit strings of a length as numbers of that many bits. -/
theorem card_le_two_pow_of_length_eq {paths : Finset (List Bool)} {d : Nat} (hd : ∀ bits ∈ paths, bits.length = d) :
    paths.card ≤ 2 ^ d := by
  have hsub : paths ⊆ (Finset.univ : Finset (List.Vector Bool d)).image List.Vector.toList := fun bits hbits =>
    Finset.mem_image.mpr ⟨⟨bits, hd bits hbits⟩, Finset.mem_univ _, rfl⟩
  calc paths.card ≤ _ := Finset.card_le_card hsub
    _ ≤ Fintype.card (List.Vector Bool d) := Finset.card_image_le
    _ = 2 ^ d := by rw [card_vector, Fintype.card_bool]

/-- Bit strings of one length that begin a word of a list are at most as many as the list's words. -/
theorem card_le_length_of_isPrefix {paths : Finset (List Bool)} {d : Nat} {words : List (List Bool)}
    (hd : ∀ bits ∈ paths, bits.length = d) (hpre : ∀ bits ∈ paths, ∃ word ∈ words, bits <+: word) :
    paths.card ≤ words.length := by
  have hsub : paths ⊆ (words.map (List.take d)).toFinset := by
    intro bits hbits
    obtain ⟨word, hword, hbegins⟩ := hpre bits hbits
    refine List.mem_toFinset.mpr (List.mem_map.mpr ⟨word, hword, ?_⟩)
    rw [← hd bits hbits, ← List.prefix_iff_eq_take.mp hbegins]
  calc paths.card ≤ _ := Finset.card_le_card hsub
    _ ≤ (words.map (List.take d)).length := List.toFinset_card_le _
    _ = words.length := List.length_map _

/-- A tree has as many nodes as paths. -/
theorem exists_paths {cap : Nat} (hcap : cap < 4096) {t : Tree} (h : t.wf cap) :
    ∃ paths : Finset (List Bool), paths.card = t.nodes.length ∧ ∀ bits ∈ paths, ∃ y, t.walk 0 bits = some y := by
  have hnode : ∀ n : Fin t.nodes.length, (BitVec.ofNat 12 n.val).toNat = n.val := fun n => by
    have hlt := n.isLt
    have hle := h.ncnt_le
    rw [BitVec.toNat_ofNat]
    exact Nat.mod_eq_of_lt (by omega)
  choose path hpath using fun n : Fin t.nodes.length => exists_path h (y := BitVec.ofNat 12 n.val) (by
    rw [hnode]
    exact n.isLt)
  have hinj : Function.Injective path := fun n m heq => by
    have hnm := hpath n
    rw [heq, hpath m, Option.some.injEq] at hnm
    rw [Fin.ext_iff, ← hnode n, ← hnode m, hnm]
  refine ⟨Finset.univ.image path, ?_, fun bits hbits => ?_⟩
  · rw [Finset.card_image_of_injective _ hinj, Finset.card_univ, Fintype.card_fin]
  · obtain ⟨n, -, rfl⟩ := Finset.mem_image.mp hbits
    exact ⟨_, hpath n⟩

/-- The nodes of a tree whose paths all begin words of a list, none longer than `depth`: at each depth at most as many
as there are bit strings of that length, and as there are words (R186). -/
theorem nodes_length_le_of_paths {cap : Nat} (hcap : cap < 4096) {t : Tree} (h : t.wf cap)
    {words : List (List Bool)} {depth : Nat} (hlen : ∀ word ∈ words, word.length ≤ depth)
    (hpre : ∀ bits y, t.walk 0 bits = some y → ∃ word ∈ words, bits <+: word) :
    t.nodes.length ≤ ∑ d ∈ Finset.range (depth + 1), min (2 ^ d) words.length := by
  obtain ⟨paths, hcard, hpaths⟩ := exists_paths hcap h
  have hbegins : ∀ bits ∈ paths, ∃ word ∈ words, bits <+: word := fun bits hbits =>
    (hpaths bits hbits).elim fun y hy => hpre bits y hy
  have hdepth : ∀ bits ∈ paths, bits.length ∈ Finset.range (depth + 1) := fun bits hbits => by
    obtain ⟨word, hword, hprefix⟩ := hbegins bits hbits
    exact Finset.mem_range.mpr (Nat.lt_succ_of_le (Nat.le_trans hprefix.length_le (hlen word hword)))
  rw [← hcard, Finset.card_eq_sum_card_fiberwise hdepth]
  refine Finset.sum_le_sum fun d _ => le_min ?_ ?_
  · exact card_le_two_pow_of_length_eq fun bits hbits => (Finset.mem_filter.mp hbits).2
  · exact card_le_length_of_isPrefix (fun bits hbits => (Finset.mem_filter.mp hbits).2)
      fun bits hbits => hbegins bits (Finset.mem_filter.mp hbits).1

end Sys2Proof.Machine
end

section
/-! SUPPORT. Insertion by where the code leads: what `Insert` answers, and exactly which paths and codes a tree gains
(R182 to R185). -/

namespace Sys2Proof.Machine

/-! ### The walk of an insertion (R182, R183) -/

/-- The last bits of a code are those of its value's low bits. -/
theorem codeBits_drop (j k c : Nat) : (codeBits (j + k) c).drop j = codeBits k c := by
  induction j with
  | zero => rw [Nat.zero_add, List.drop_zero]
  | succ j ih => rw [Nat.add_right_comm, codeBits_succ, List.drop_succ_cons, ih]

/-- A code is its first bits, then the code of the bits left. -/
theorem codeBits_eq_take_append (j k c : Nat) :
    codeBits (j + k) c = (codeBits (j + k) c).take j ++ codeBits k c := by
  rw [← codeBits_drop j k c, List.take_append_drop]

/-- An insertion goes on from where the code's first bits lead. -/
theorem insertFrom_of_walk {cap c j k : Nat} {sym : BitVec 9} {t : Tree} {x y : BitVec 12}
    (h : t.walk x ((codeBits (j + k) c).take j) = some y) :
    Tree.insertFrom cap c sym (j + k) x t = Tree.insertFrom cap c sym k y t := by
  induction j generalizing x with
  | zero =>
    obtain rfl : x = y := Option.some.inj h
    rw [Nat.zero_add]
  | succ j ih =>
    rw [Nat.add_right_comm, codeBits_succ, List.take_succ_cons, walk_cons_eq_bind] at h
    obtain ⟨z, hchild, hz⟩ := Option.bind_eq_some_iff.mp h
    rw [Nat.add_right_comm, ← ih hz]
    cases hnode : t.node x with
    | leaf old => rw [hnode] at hchild; cases hchild
    | internal c0 c1 =>
      rw [hnode] at hchild
      simp only [Tree.insertFrom, hnode, hchild]

section
variable {cap l c : Nat} {sym : BitVec 9} {t : Tree} {n : BitVec 12}

/-- A code all of whose bits lead on: what stands there decides (R183). -/
theorem insert_of_walk (h : t.walk 0 (codeBits l c) = some n) :
    t.insert cap l c sym = Tree.insertFrom cap c sym 0 n t := by
  have htake : (codeBits (l + 0) c).take l = codeBits l c :=
    List.take_of_length_le (Nat.le_of_eq (codeBits_length l c))
  exact insertFrom_of_walk (k := 0) (by rw [htake, h])

theorem insert_of_leaf {old : BitVec 9} (h : t.walk 0 (codeBits l c) = some n) (hleaf : t.leafAt n old) :
    t.insert cap l c sym = .alreadyPresent := by
  have hnode : t.node n = .leaf old := hleaf
  rw [insert_of_walk h]
  simp only [Tree.insertFrom, hnode]

theorem insert_of_internal {c0 c1 : Option (BitVec 12)} (h : t.walk 0 (codeBits l c) = some n)
    (hnode : t.node n = .internal c0 c1) : t.insert cap l c sym = .prefixViolation := by
  rw [insert_of_walk h]
  simp only [Tree.insertFrom, hnode]

/-- A LEAF before the code's last bit is a violation. -/
theorem insert_of_leaf_before {j : Nat} {old : BitVec 9} (hj : j < l)
    (h : t.walk 0 ((codeBits l c).take j) = some n) (hleaf : t.leafAt n old) :
    t.insert cap l c sym = .prefixViolation := by
  obtain ⟨k, rfl⟩ := Nat.exists_eq_add_of_lt hj
  have hnode : t.node n = .leaf old := hleaf
  rw [Tree.insert, Nat.add_assoc, insertFrom_of_walk h]
  simp only [Tree.insertFrom, hnode]

/-- Where a bit has no child, the rest of the code is grown, if the arena has room for it (R182, R184). -/
theorem insert_of_no_child {j k : Nat} {c0 c1 : Option (BitVec 12)}
    (h : t.walk 0 ((codeBits (j + (k + 1)) c).take j) = some n) (hnode : t.node n = .internal c0 c1)
    (hnone : (t.node n).child (c.testBit k) = none) :
    t.insert cap (j + (k + 1)) c sym = if cap < t.nodes.length + (k + 1) then .capacityExceeded
      else .inserted (t.grow c sym (k + 1) n) := by
  rw [Tree.insert, insertFrom_of_walk h]
  rw [hnode] at hnone
  simp only [Tree.insertFrom, hnode, hnone]

end

/-! ### The nodes a code grows (R182) -/

/-- What the growth of a code needs of its first link: the invariants, the new node and the way to it, and that no old
node becomes a LEAF. -/
theorem link_spec {cap : Nat} (hcap : cap < 4096) {t : Tree} (h : t.wf cap) (hroom : t.nodes.length < cap)
    {n : BitVec 12} (hn : n.toNat < t.nodes.length) {c0 c1 : Option (BitVec 12)} (hint : t.node n = .internal c0 c1)
    {b : Bool} (hnone : (t.node n).child b = none) {new : Node} (hnew : ∀ d, new.child d = none) :
    (t.link n b new).wf cap ∧ (t.link n b new).node t.ncnt = new ∧
      ((t.link n b new).node n).child b = some t.ncnt ∧
      ∀ x old, x.toNat < t.nodes.length → (t.link n b new).node x = .leaf old → t.node x = .leaf old := by
  have hlen : t.nodes.length < 4096 := by omega
  have hne : ∀ x : BitVec 12, x.toNat < t.nodes.length → x ≠ t.ncnt := fun x hx he => by
    rw [he, ncnt_toNat hlen] at hx
    exact absurd hx (Nat.lt_irrefl _)
  refine ⟨link_wf hcap h hroom hn hint hnone hnew, ?_, ?_, fun x old hx hleaf => ?_⟩
  · rw [link_node b new hlen hn, if_neg (hne n hn).symm, if_pos rfl]
  · rw [link_child hlen hn hint hnew, if_pos ⟨rfl, rfl⟩]
  · rw [link_node b new hlen hn, if_neg (hne x hx), hint] at hleaf
    split at hleaf
    · obtain ⟨d0, d1, hset⟩ := setChild_internal c0 c1 b t.ncnt
      rw [hset] at hleaf
      cases hleaf
    · exact hleaf

/-- Growing a code makes no old node a LEAF, and each new node is where some of the code's bits lead. -/
theorem grow_old_and_new {cap : Nat} (hcap : cap < 4096) (c : Nat) (sym : BitVec 9) (k : Nat) {n : BitVec 12} {t : Tree}
    (h : t.wf cap) (hroom : t.nodes.length + (k + 1) ≤ cap) (hn : n.toNat < t.nodes.length)
    {c0 c1 : Option (BitVec 12)} (hint : t.node n = .internal c0 c1)
    (hnone : (t.node n).child (c.testBit k) = none) :
    (∀ x old, x.toNat < t.nodes.length → (t.grow c sym (k + 1) n).node x = .leaf old → t.node x = .leaf old) ∧
    (∀ y : BitVec 12, t.nodes.length ≤ y.toNat → y.toNat < t.nodes.length + (k + 1) →
      ∃ bits, bits <+: codeBits (k + 1) c ∧ (t.grow c sym (k + 1) n).walk n bits = some y) := by
  induction k generalizing n t c0 c1 with
  | zero =>
    have hncnt := ncnt_toNat (t := t) (by omega)
    obtain ⟨-, -, hchild, hold⟩ := link_spec hcap h (by omega) hn hint hnone (child_leaf sym)
    refine ⟨hold, fun y hge hlt => ?_⟩
    obtain rfl : y = t.ncnt := BitVec.eq_of_toNat_eq (by omega)
    exact ⟨_, List.prefix_rfl, walk_cons_of_child hchild []⟩
  | succ k ih =>
    have hncnt := ncnt_toNat (t := t) (by omega)
    have hgrow : t.grow c sym (k + 1 + 1) n =
        (t.link n (c.testBit (k + 1)) (.internal none none)).grow c sym (k + 1) t.ncnt := by
      rw [grow_succ, if_neg (Nat.succ_ne_zero k)]
    obtain ⟨hwf, hnew, hchild, hold⟩ := link_spec hcap h (by omega) hn hint hnone child_empty
    have hlen := link_length t n (c.testBit (k + 1)) (.internal none none)
    rw [hgrow]
    generalize t.link n (c.testBit (k + 1)) (.internal none none) = t1 at hwf hnew hchild hold hlen
    have hroom1 : t1.nodes.length + (k + 1) ≤ cap := by omega
    have hm : t.ncnt.toNat < t1.nodes.length := by omega
    have hnone1 : (t1.node t.ncnt).child (c.testBit k) = none := by rw [hnew, child_empty]
    obtain ⟨hold1, hnew1⟩ := ih hwf hroom1 hm hnew hnone1
    obtain ⟨-, -, -, hkeep, -, -⟩ := grow_spec hcap c sym k hwf hroom1 hm hnew hnone1
    have hfirst := hkeep [c.testBit (k + 1)] n t.ncnt (by omega) (walk_cons_of_child hchild [])
    refine ⟨fun x old hx hleaf => hold x old hx (hold1 x old (by omega) hleaf), fun y hge hlt => ?_⟩
    rw [codeBits_succ]
    by_cases hy : y = t.ncnt
    · exact ⟨_, List.prefix_append [_] _, by rw [hy, hfirst]⟩
    · have hne : y.toNat ≠ t.ncnt.toNat := fun he => hy (BitVec.eq_of_toNat_eq he)
      obtain ⟨bits, hbits, hwalk⟩ := hnew1 y (by omega) (by omega)
      refine ⟨_ :: bits, (List.prefix_cons_inj _).mpr hbits, ?_⟩
      rw [walk_cons_of_child (walk_singleton .. ▸ hfirst), hwalk]

/-! ### The paths and codes a tree gains (R183) -/

/-- What a tree with a code's last `k + 1` bits grown at the end of a walk is: the invariants, one node for each of
those bits, the cursor as before; the code and its beginnings are the new paths, and it is the one new code. -/
theorem grow_gains {cap j k c : Nat} (hcap : cap < 4096) (sym : BitVec 9) {n : BitVec 12} {t : Tree}
    (h : t.wf cap) (hroom : t.nodes.length + (k + 1) ≤ cap)
    (hwalk : t.walk 0 ((codeBits (j + (k + 1)) c).take j) = some n)
    {c0 c1 : Option (BitVec 12)} (hint : t.node n = .internal c0 c1)
    (hnone : (t.node n).child (c.testBit k) = none) :
    (t.grow c sym (k + 1) n).wf cap ∧ (t.grow c sym (k + 1) n).nodes.length = t.nodes.length + (k + 1) ∧
    (t.grow c sym (k + 1) n).cur = t.cur ∧
    (∀ bits, (∃ y, (t.grow c sym (k + 1) n).walk 0 bits = some y) ↔
      (∃ y, t.walk 0 bits = some y) ∨ bits <+: codeBits (j + (k + 1)) c) ∧
    (∀ bits old, (t.grow c sym (k + 1) n).codeOf bits old ↔
      (bits = codeBits (j + (k + 1)) c ∧ old = sym) ∨ t.codeOf bits old) := by
  have hroot := root_allocated h
  have hn := walk_allocated h hroot hwalk
  obtain ⟨hwf, hlen, hcur, hkeep, hleaf, m, hm, hmleaf⟩ := grow_spec hcap c sym k h hroom hn hint hnone
  obtain ⟨hold, hnew⟩ := grow_old_and_new hcap c sym k h hroom hn hint hnone
  generalize t.grow c sym (k + 1) n = t' at hwf hlen hcur hkeep hleaf hm hmleaf hold hnew
  have hkept := fun bits y => hkeep bits 0 y hroot
  have hcode : t'.walk 0 (codeBits (j + (k + 1)) c) = some m := by
    rw [codeBits_eq_take_append, walk_append_of_walk (hkept _ n hwalk), hm]
  have hpath : ∀ bits y, t'.walk 0 bits = some y →
      (y.toNat < t.nodes.length ∧ t.walk 0 bits = some y) ∨ bits <+: codeBits (j + (k + 1)) c := by
    intro bits y hy
    by_cases hylt : y.toNat < t.nodes.length
    · obtain ⟨word, hword⟩ := exists_path h hylt
      exact .inl ⟨hylt, by rw [path_unique hwf hy (hkept word y hword), hword]⟩
    · have hlt := walk_allocated hwf (root_allocated hwf) hy
      obtain ⟨more, hmore, hwalk'⟩ := hnew y (by omega) (by omega)
      have heq := path_unique hwf hy ((walk_append_of_walk (hkept _ n hwalk) more).trans hwalk')
      have hbegins := (List.prefix_append_right_inj ((codeBits (j + (k + 1)) c).take j)).mpr hmore
      rw [← codeBits_eq_take_append, ← heq] at hbegins
      exact .inr hbegins
  refine ⟨hwf, hlen, hcur, fun bits => ⟨?_, ?_⟩, fun bits old => ⟨?_, ?_⟩⟩
  · rintro ⟨y, hy⟩
    exact (hpath bits y hy).imp (fun hy' => ⟨y, hy'.2⟩) id
  · rintro (⟨y, hy⟩ | hbegins)
    · exact ⟨y, hkept bits y hy⟩
    · exact exists_walk_of_isPrefix hbegins hcode
  · rintro ⟨y, hy, hyleaf⟩
    rcases hpath bits y hy with ⟨hylt, hy'⟩ | ⟨more, hmore⟩
    · exact .inr ⟨y, hy', hold y old hylt hyleaf⟩
    · have hmore' : t'.walk y more = some m := by rw [← walk_append_of_walk hy, hmore, hcode]
      obtain rfl := walk_leaf hyleaf hmore'
      obtain rfl : y = m := Option.some.inj hmore'
      have hsame : Node.leaf old = .leaf sym := hyleaf.symm.trans hmleaf
      exact .inl ⟨by rw [← hmore, List.append_nil], Node.leaf.inj hsame⟩
  · rintro (⟨rfl, rfl⟩ | ⟨y, hy, hyleaf⟩)
    · exact ⟨m, hcode, hmleaf⟩
    · exact ⟨y, hkept bits y hy, hleaf y old (walk_allocated h hroot hy) hyleaf⟩

/-! ### TINS (R185) -/

/-- The end of a TINS with its operands in range: the tree with the code, or an answer alone (R185). -/
def finishInsert (k : Sel) (s : State) : Insertion → Host.Outcome State Fault Refusal
  | .inserted t => answer 0 (s.setTree k t)
  | .alreadyPresent => answer 1 s
  | .prefixViolation => answer 2 s
  | .capacityExceeded => refuse .treeCapacityExceeded s

/-- A marker form of a length from 1 to LMAX marks its code (R98). -/
theorem markerOperand_eq {k : Sel} {mk : BitVec 16} {l c : Nat} (hl : 1 ≤ l) (hmax : l ≤ Config.lmax k)
    (hc : c < 2 ^ l) (hmk : mk.toNat = 2 ^ l + c) : markerOperand k mk = some (l, c) := by
  have hlength := markerLength_eq hmk hc
  have htwo : 2 ^ 1 ≤ 2 ^ l := Nat.pow_le_pow_right (by decide) hl
  have hcode : markerCode mk = c := by
    rw [markerCode, hlength, hmk, Nat.add_mod_left, Nat.mod_eq_of_lt hc]
  rw [markerOperand, hlength, hcode, if_neg (by omega), if_neg (Nat.not_lt.mpr hmax)]

theorem exec_tins {sel : BitVec 2} {k : Sel} {sym : BitVec 9} {mk : BitVec 16} {l c : Nat}
    (hsel : Config.selOf sel = some k) (hsym : sym.toNat < Config.asize k) (hmk : markerOperand k mk = some (l, c))
    (s : State) : exec (.tins sel sym mk) s = finishInsert k s ((s.tree k).insert (Config.nodecap k) l c sym) := by
  show execTins sel sym mk s = _
  simp only [execTins, indexOperand_of_lt hsel hsym, hmk]
  cases (s.tree k).insert (Config.nodecap k) l c sym <;> rfl

/-- An answer over a state with one tree replaced leaves the other trees, the tables and the stream. -/
theorem respond_setTree_frame (s : State) (k : Sel) (t : Tree) (e : Status) (r : Word) :
    (∀ j, j ≠ k → ((s.setTree k t).respond e r).tree j = s.tree j) ∧ SameLengths s ((s.setTree k t).respond e r) ∧
      SameCodes s ((s.setTree k t).respond e r) ∧ SameStream s ((s.setTree k t).respond e r) := by
  refine ⟨fun j hj => ?_, ?_, ?_, SameStream_respond (setTree_sameStream s k t) e r⟩
  · rw [respond_tree, setTree_tree_other _ _ _ _ hj]
  · simp [SameLengths]
  · simp [SameCodes]

/-- Settles O29: where the code leads decides what Insert answers, and a code it grows is the one the tree gains. -/
theorem tinsOutcomes : Obligations.TinsOutcomes := by
  unfold Obligations.TinsOutcomes
  intro s sel k sym mk l c hsel hsym hl hmax hc hmk hwf
  have hexec := exec_tins hsel hsym (markerOperand_eq hl hmax hc hmk) s
  refine ⟨fun n old hwalk hleaf => ?_, fun n c0 c1 hwalk hnode => ?_, fun j n old hj hwalk hleaf => ?_,
    fun j n c0 c1 hj hwalk hnode hnone => ?_⟩
  · rw [hexec, insert_of_leaf hwalk hleaf]
    rfl
  · rw [hexec, insert_of_internal hwalk hnode]
    rfl
  · rw [hexec, insert_of_leaf_before hj hwalk hleaf]
    rfl
  · obtain ⟨left, rfl⟩ := Nat.exists_eq_add_of_lt hj
    have hbit : j + left + 1 - 1 - j = left := by omega
    have hleft : j + left + 1 - j = left + 1 := by omega
    rw [hbit] at hnone
    rw [Nat.add_assoc] at hwalk hexec
    rw [hleft, hexec, insert_of_no_child hwalk hnode hnone, Nat.add_assoc]
    refine ⟨fun hfull => by rw [if_pos hfull]; rfl, fun hroom => ?_⟩
    obtain ⟨hwf', hlen, hcur, -, hcodes⟩ := grow_gains (nodecap_lt k) sym hwf hroom hwalk hnode hnone
    rw [if_neg (Nat.not_lt.mpr hroom)]
    refine ⟨_, rfl, rfl, ?_, ?_, ?_, ?_, respond_setTree_frame s k _ _ _⟩
    all_goals rwa [respond_tree, setTree_tree_same]

end Sys2Proof.Machine
end

section
/-! SUPPORT. BuildTree: the tree after each symbol's code, why the arena never runs out, and the symbol at which a build
stops; TBLD and CBLD with it (R186 to R188, R168). -/

namespace Sys2Proof.Machine

/-! ### Codes that collide with those of a tree (R183) -/

/-- The bits all lead on, or a code of the tree begins them. -/
def Tree.collides (t : Tree) (bits : List Bool) : Prop :=
  (∃ y, t.walk 0 bits = some y) ∨ ∃ word old, word <+: bits ∧ t.codeOf word old

/-- A code that collides is not inserted. -/
theorem insert_of_collides {cap l c : Nat} {sym : BitVec 9} {t : Tree} (h : t.collides (codeBits l c)) :
    t.insert cap l c sym = .alreadyPresent ∨ t.insert cap l c sym = .prefixViolation := by
  rcases h with ⟨y, hy⟩ | ⟨word, old, hbegins, y, hy, hleaf⟩
  · cases hnode : t.node y with
    | leaf old => exact .inl (insert_of_leaf hy hnode)
    | internal c0 c1 => exact .inr (insert_of_internal hy hnode)
  · have hword := List.prefix_iff_eq_take.mp hbegins
    have hle : word.length ≤ l := by simpa [codeBits_length] using hbegins.length_le
    rw [hword] at hy
    rcases Nat.lt_or_eq_of_le hle with hlt | heq
    · exact .inr (insert_of_leaf_before hlt hy hleaf)
    · rw [List.take_of_length_le (by rw [codeBits_length, heq])] at hy
      exact .inl (insert_of_leaf hy hleaf)

/-- A code that does not collide leads to an INTERNAL node without a child for its next bit. -/
theorem exists_no_child_of_not_collides {l c : Nat} {t : Tree} (h : ¬ t.collides (codeBits l c)) :
    ∃ j k n c0 c1, l = j + (k + 1) ∧ t.walk 0 ((codeBits (j + (k + 1)) c).take j) = some n ∧
      t.node n = .internal c0 c1 ∧ (t.node n).child (c.testBit k) = none := by
  rcases exists_walk_or_stop t 0 (codeBits l c) with hwalk | ⟨before, b, after, n, hcode, hn, hnone⟩
  · exact absurd (.inl hwalk) h
  · have hl : l = before.length + (after.length + 1) := by
      rw [← codeBits_length l c, hcode, List.length_append, List.length_cons]
    subst hl
    have hafter : c.testBit after.length :: codeBits after.length c = b :: after := by
      rw [← codeBits_succ, ← codeBits_drop before.length, hcode, List.drop_left]
    have hbefore : (codeBits (before.length + (after.length + 1)) c).take before.length = before := by
      rw [hcode, List.take_left]
    cases hnode : t.node n with
    | leaf old => exact absurd (.inr ⟨before, old, ⟨_, hcode.symm⟩, n, hn, hnode⟩) h
    | internal c0 c1 =>
      refine ⟨before.length, after.length, n, c0, c1, rfl, by rw [hbefore, hn], hnode, ?_⟩
      rw [(List.cons.inj hafter).1, hnone]

/-! ### The tree after the codes of the symbols below one (R187) -/

/-- `t` is what BuildTree has built before symbol `m`: it meets the invariants with its cursor on the root, decodes
exactly the codes of the symbols below, has no paths but their beginnings, and the build goes on from it. -/
structure BuiltTo (s : State) (k : Sel) (m : Nat) (t : Tree) : Prop where
  wf : t.wf (Config.nodecap k)
  cursor : t.cur = 0
  decodes : ∀ bits sym, t.codeOf bits sym ↔
    ∃ i, i < m ∧ (s.codeAt k i).clen ≠ 0 ∧ bits = s.codeString k i ∧ sym = BitVec.ofNat 9 i
  paths : ∀ bits, (∃ y, t.walk 0 bits = some y) ↔
    bits = [] ∨ ∃ i, i < m ∧ (s.codeAt k i).clen ≠ 0 ∧ bits <+: s.codeString k i
  build : Tree.build (Config.nodecap k) (s.codes k) 0 Tree.empty =
    Tree.build (Config.nodecap k) ((s.codes k).drop m) m t

/-- The only path of the root alone is the empty one. -/
theorem empty_walk {bits : List Bool} {y : BitVec 12} (h : Tree.empty.walk 0 bits = some y) : bits = [] ∧ y = 0 := by
  cases bits with
  | nil => exact ⟨rfl, (Option.some.inj h).symm⟩
  | cons b rest =>
    have hnone : (Tree.empty.node 0).child b = none := child_empty b
    rw [walk_cons_eq_bind, hnone] at h
    cases h

theorem builtTo_zero (s : State) (k : Sel) : BuiltTo s k 0 Tree.empty where
  wf := empty_wf (nodecap_pos k)
  cursor := rfl
  decodes bits sym := by
    constructor
    · rintro ⟨y, hy, hleaf⟩
      rw [(empty_walk hy).2] at hleaf
      cases hleaf
    · rintro ⟨i, hi, -⟩
      cases hi
  paths bits := by
    constructor
    · rintro ⟨y, hy⟩
      exact .inl (empty_walk hy).1
    · rintro (rfl | ⟨i, hi, -⟩)
      · exact ⟨0, rfl⟩
      · cases hi
  build := rfl

theorem codes_drop_eq_cons {s : State} {k : Sel} {m : Nat} (hm : m < Config.asize k) :
    (s.codes k).drop m = s.codeAt k m :: (s.codes k).drop (m + 1) := by
  rw [← codes_length s] at hm
  rw [List.drop_eq_getElem_cons hm, ← codes_getD, List.getD_eq_getElem _ _ hm]

theorem codeAt_mem_codes {s : State} {k : Sel} {i : Nat} (hi : i < Config.asize k) : s.codeAt k i ∈ s.codes k := by
  have hmem : s.codeAt k i ∈ (s.codes k).drop i := by
    rw [codes_drop_eq_cons hi]
    exact List.mem_cons_self
  exact List.mem_of_mem_drop hmem

theorem codeString_length (s : State) (k : Sel) (i : Nat) : (s.codeString k i).length = (s.codeAt k i).clen.toNat :=
  codeBits_length _ _

section
variable {s : State} {k : Sel} {m : Nat} {t : Tree}

theorem codeString_ne_nil (hne : (s.codeAt k m).clen ≠ 0) : s.codeString k m ≠ [] := by
  intro hnil
  have hlen := codeString_length s k m
  rw [hnil] at hlen
  exact hne (BitVec.eq_of_toNat_eq hlen.symm)

/-- A symbol's code collides with those before it exactly when it equals, begins with or begins one of them. -/
theorem BuiltTo.collides_iff (h : BuiltTo s k m t) (hne : (s.codeAt k m).clen ≠ 0) :
    t.collides (s.codeString k m) ↔ ∃ j, j < m ∧ (s.codeAt k j).clen ≠ 0 ∧
      (s.codeString k j <+: s.codeString k m ∨ s.codeString k m <+: s.codeString k j) := by
  rw [Tree.collides, h.paths]
  constructor
  · rintro ((hnil | ⟨j, hj, hnej, hbegins⟩) | ⟨word, old, hbegins, hcode⟩)
    · exact absurd hnil (codeString_ne_nil hne)
    · exact ⟨j, hj, hnej, .inr hbegins⟩
    · obtain ⟨j, hj, hnej, rfl, -⟩ := (h.decodes word old).mp hcode
      exact ⟨j, hj, hnej, .inl hbegins⟩
  · rintro ⟨j, hj, hnej, hbegins | hbegins⟩
    · exact .inr ⟨_, _, hbegins, (h.decodes _ _).mpr ⟨j, hj, hnej, rfl, rfl⟩⟩
    · exact .inl (.inr ⟨j, hj, hnej, hbegins⟩)

theorem BuiltTo.codeFails_iff (h : BuiltTo s k m t) : s.codeFails k m ↔ (s.codeAt k m).clen ≠ 0 ∧
    (2 ^ (s.codeAt k m).clen.toNat ≤ (s.codeAt k m).cval.toNat ∨ t.collides (s.codeString k m)) :=
  and_congr_right fun hne => or_congr_right (h.collides_iff hne).symm

/-- A symbol that fails stops the build with the tree as it is (R187). -/
theorem BuiltTo.build_of_codeFails (h : BuiltTo s k m t) (hm : m < Config.asize k) (hfails : s.codeFails k m) :
    Tree.build (Config.nodecap k) (s.codes k) 0 Tree.empty = (some .prefixCodeViolation, t) := by
  rw [h.build, codes_drop_eq_cons hm]
  obtain ⟨hne, hwhy⟩ := h.codeFails_iff.mp hfails
  simp only [Tree.build, if_neg hne]
  split
  case isTrue => rfl
  case isFalse hfits =>
    rcases insert_of_collides (hwhy.resolve_left hfits) with hins | hins <;> rw [hins]

/-- The end of the table ends the build. -/
theorem BuiltTo.build_of_end (h : BuiltTo s k (Config.asize k) t) :
    Tree.build (Config.nodecap k) (s.codes k) 0 Tree.empty = (none, t) := by
  rw [h.build, List.drop_of_length_le (Nat.le_of_eq (codes_length s k))]
  rfl

/-- A symbol without a code leaves the tree as it is. -/
theorem BuiltTo.skip (h : BuiltTo s k m t) (hm : m < Config.asize k) (hzero : (s.codeAt k m).clen = 0) :
    BuiltTo s k (m + 1) t where
  wf := h.wf
  cursor := h.cursor
  decodes bits sym := by
    rw [h.decodes, Nat.exists_lt_succ_right]
    simp [hzero]
  paths bits := by
    rw [h.paths, Nat.exists_lt_succ_right]
    simp [hzero]
  build := by
    rw [h.build, codes_drop_eq_cons hm, Tree.build, if_pos hzero]

/-! ### The arena never runs out (R186) -/

/-- NODECAP is, over the depths up to LMAX, the sum of how many nodes each can hold (R186). -/
theorem nodecap_eq_sum (k : Sel) :
    Config.nodecap k = ∑ d ∈ Finset.range (Config.lmax k + 1), min (2 ^ d) (Config.asize k) := by
  cases k <;> rfl

/-- An arena's invariants hold for any capacity it fits in. -/
theorem wf_of_length_le {cap cap' : Nat} {t : Tree} (h : t.wf cap) (hle : t.nodes.length ≤ cap') : t.wf cap' :=
  ⟨h.root, hle, h.cur_lt, h.child_later, h.has_parent, h.one_parent⟩

variable (hlen : ∀ e ∈ s.codes k, e.clen.toNat ≤ Config.lmax k)
include hlen

/-- A tree fits the arena when each of its paths begins a code of the table. -/
theorem nodes_length_le_nodecap {cap : Nat} (hcap : cap < 4096) (h : t.wf cap)
    (hpre : ∀ bits y, t.walk 0 bits = some y → ∃ i, i < Config.asize k ∧ bits <+: s.codeString k i) :
    t.nodes.length ≤ Config.nodecap k := by
  have hwords : ((List.range (Config.asize k)).map (s.codeString k)).length = Config.asize k := by
    rw [List.length_map, List.length_range]
  rw [nodecap_eq_sum, ← hwords]
  refine nodes_length_le_of_paths hcap h (fun word hword => ?_) fun bits y hy => ?_
  · obtain ⟨i, hi, rfl⟩ := List.mem_map.mp hword
    rw [codeString_length]
    exact hlen _ (codeAt_mem_codes (List.mem_range.mp hi))
  · obtain ⟨i, hi, hbegins⟩ := hpre bits y hy
    exact ⟨_, List.mem_map_of_mem (List.mem_range.mpr hi), hbegins⟩

/-- A symbol that does not fail is inserted (R187). -/
theorem BuiltTo.insert (h : BuiltTo s k m t) (hm : m < Config.asize k) (hne : (s.codeAt k m).clen ≠ 0)
    (hok : ¬ s.codeFails k m) : ∃ t', BuiltTo s k (m + 1) t' := by
  rw [h.codeFails_iff, not_and, not_or] at hok
  obtain ⟨hfits, hfree⟩ := hok hne
  obtain ⟨j, left, n, c0, c1, hclen, hwalk, hint, hnone⟩ := exists_no_child_of_not_collides hfree
  have hcode : s.codeString k m = codeBits (j + (left + 1)) (s.codeAt k m).cval.toNat := by
    rw [← hclen, State.codeString]
  have hmax := hlen _ (codeAt_mem_codes hm)
  have hlmax : Config.lmax k ≤ 15 := by cases k <;> decide
  have hcap : t.nodes.length + (left + 1) < 4096 := by
    have hle := h.wf.ncnt_le
    have hnodecap : Config.nodecap k ≤ 2527 := by cases k <;> decide
    omega
  obtain ⟨hwf, hcount, hcur, hpaths, hcodes⟩ :=
    grow_gains hcap (BitVec.ofNat 9 m) (wf_of_length_le h.wf (Nat.le_add_right _ _)) (Nat.le_refl _) hwalk hint hnone
  generalize hgrow : t.grow _ (BitVec.ofNat 9 m) (left + 1) n = t' at hwf hcount hcur hpaths hcodes
  rw [← hcode] at hpaths hcodes
  have hgained : ∀ bits, (∃ y, t'.walk 0 bits = some y) ↔
      bits = [] ∨ ∃ i, i < m + 1 ∧ (s.codeAt k i).clen ≠ 0 ∧ bits <+: s.codeString k i := fun bits => by
    rw [hpaths, h.paths, or_assoc, Nat.exists_lt_succ_right, and_iff_right hne]
  have hroom : t.nodes.length + (left + 1) ≤ Config.nodecap k := by
    rw [← hcount]
    refine nodes_length_le_nodecap hlen hcap hwf fun bits y hy => ?_
    rcases (hgained bits).mp ⟨y, hy⟩ with rfl | ⟨i, hi, -, hbegins⟩
    · exact ⟨m, hm, List.nil_prefix⟩
    · exact ⟨i, by omega, hbegins⟩
  refine ⟨t', wf_of_length_le hwf (by rwa [hcount]), hcur.trans h.cursor, fun bits sym => ?_, hgained, ?_⟩
  · rw [hcodes, h.decodes, or_comm, Nat.exists_lt_succ_right, and_iff_right hne]
  · rw [h.build, codes_drop_eq_cons hm]
    simp only [Tree.build, if_neg hne, if_neg hfits]
    rw [hclen, insert_of_no_child hwalk hint hnone, if_neg (Nat.not_lt.mpr hroom), hgrow]

/-- While no symbol fails, the build goes on. -/
theorem exists_builtTo (hm : m ≤ Config.asize k) (hok : ∀ i, i < m → ¬ s.codeFails k i) : ∃ t, BuiltTo s k m t := by
  induction m with
  | zero => exact ⟨_, builtTo_zero s k⟩
  | succ m ih =>
    obtain ⟨t, ht⟩ := ih (Nat.le_of_succ_le hm) fun i hi => hok i (Nat.lt_succ_of_lt hi)
    by_cases hzero : (s.codeAt k m).clen = 0
    · exact ⟨t, ht.skip hm hzero⟩
    · exact ht.insert hlen hm hzero (hok m (Nat.lt_succ_self m))

/-- With no failing symbol a build completes. -/
theorem build_completes (hok : ∀ i, i < Config.asize k → ¬ s.codeFails k i) :
    ∃ t, BuiltTo s k (Config.asize k) t ∧
      Tree.build (Config.nodecap k) (s.codes k) 0 Tree.empty = (none, t) := by
  obtain ⟨t, ht⟩ := exists_builtTo hlen (Nat.le_refl _) hok
  exact ⟨t, ht, ht.build_of_end⟩

/-- A build stops at the first symbol that fails. -/
theorem build_stops (hm : m < Config.asize k) (hfails : s.codeFails k m) (hok : ∀ i, i < m → ¬ s.codeFails k i) :
    ∃ t, BuiltTo s k m t ∧
      Tree.build (Config.nodecap k) (s.codes k) 0 Tree.empty = (some .prefixCodeViolation, t) := by
  obtain ⟨t, ht⟩ := exists_builtTo hlen (Nat.le_of_lt hm) hok
  exact ⟨t, ht, ht.build_of_codeFails hm hfails⟩

/-- A build with a failing symbol ends in PrefixCodeViolation. -/
theorem build_violation (hm : m < Config.asize k) (hfails : s.codeFails k m) :
    (Tree.build (Config.nodecap k) (s.codes k) 0 Tree.empty).1 = some .prefixCodeViolation := by
  classical
  have hex : ∃ i, s.codeFails k i := ⟨m, hfails⟩
  obtain ⟨t, -, hbuild⟩ := build_stops hlen (Nat.lt_of_le_of_lt (Nat.find_min' hex hfails) hm) (Nat.find_spec hex)
    fun i hi => Nat.find_min hex hi
  rw [hbuild]

/-- Whatever the table, a build does not run out of nodes (R186). -/
theorem build_ne_capacity :
    (Tree.build (Config.nodecap k) (s.codes k) 0 Tree.empty).1 ≠ some .treeCapacityExceeded := by
  by_cases hok : ∀ i, i < Config.asize k → ¬ s.codeFails k i
  · obtain ⟨t, -, hbuild⟩ := build_completes hlen hok
    rw [hbuild]
    exact nofun
  · push Not at hok
    obtain ⟨m, hm, hfails⟩ := hok
    rw [build_violation hlen hm hfails]
    decide

end

/-- Settles O27: a build either completes or ends in PrefixCodeViolation, as a tree whose paths begin codes of the table
fits the arena; what it leaves meets the tree invariants. -/
theorem buildNeverExceedsCapacity : Obligations.BuildNeverExceedsCapacity := by
  unfold Obligations.BuildNeverExceedsCapacity
  refine ⟨fun s k hlen => ?_, fun k => by cases k <;> rfl, rfl, rfl, rfl⟩
  have hne := build_ne_capacity hlen
  have hwf := build_wf (nodecap_lt k) (s.codes k) 0 (empty_wf (nodecap_pos k))
  rcases hbuild : Tree.build (Config.nodecap k) (s.codes k) 0 Tree.empty with ⟨_ | e, t⟩
  all_goals
    rw [hbuild] at hne hwf
    simp only [buildTree, hbuild]
  · exact ⟨fun _ => by simp, by rw [Holds_ok, setTree_tree_same]; exact hwf.ncnt_le⟩
  · refine ⟨fun u hraise => hne ?_, by rw [Holds_err, setTree_tree_same]; exact hwf.ncnt_le⟩
    rw [(Res.err.inj hraise).1]

/-! ### TBLD (R188) -/

/-- The state a TBLD answers in, its tree built before symbol `m` (R188). -/
theorem BuiltTo.codesInserted {s : State} {k : Sel} {m : Nat} {t : Tree} (h : BuiltTo s k m t) (e : Status) (r : Word) :
    CodesInserted k m s ((s.setTree k t).respond e r) := by
  obtain ⟨htrees, hlengths, hcodes, hstream⟩ := respond_setTree_frame s k t e r
  have htree : ((s.setTree k t).respond e r).tree k = t := by rw [respond_tree, setTree_tree_same]
  exact {
    decodes := by rw [htree]; exact h.decodes
    wf := by rw [htree]; exact h.wf
    cursor := by rw [htree]; exact h.cursor
    trees := htrees
    tables := ⟨hlengths, hcodes⟩
    stream := hstream }

/-- Settles O26: the build goes on from symbol to symbol while none fails, and stops at the first that does. -/
theorem tbldRebuildsTree : Obligations.TbldRebuildsTree := by
  unfold Obligations.TbldRebuildsTree
  intro s sel k hsel hcodes
  have hexec := exec_tbld hsel s
  refine ⟨fun hok => ?_, fun m hm hfails hok => ?_⟩
  · obtain ⟨t, ht, hbuild⟩ := build_completes (hcodes k) hok
    rw [hbuild] at hexec
    exact ⟨_, hexec, rfl, ht.codesInserted _ _⟩
  · obtain ⟨t, ht, hbuild⟩ := build_stops (hcodes k) hm hfails hok
    rw [hbuild] at hexec
    exact ⟨_, hexec, rfl, ht.codesInserted _ _⟩

/-! ### CBLD, then TBLD (R168, R187) -/

/-- The codes CBLD writes are no longer than the alphabet's longest (R8). -/
theorem buildCodes_clen_le (s : State) (k : Sel) :
    ∀ e ∈ (s.buildCodes k).codes k, e.clen.toNat ≤ Config.lmax k := by
  rw [buildCodes_codes]
  exact assignCodes_clen_le _ _ (lens_le_lmax s k)

/-- Settles O25: under Kraft's inequality every canonical code fits its length and none begins another, so none fails;
where it is broken, one does not fit. -/
theorem tableLoadSucceedsIffKraftHolds : Obligations.TableLoadSucceedsIffKraftHolds := by
  unfold Obligations.TableLoadSucceedsIffKraftHolds
  intro s0 s sel k hsel hcbld
  obtain ⟨hlarge, hfree, -⟩ := overSubscribedIffKraftBroken s0 s sel k hsel hcbld
  rw [exec_cbld hsel] at hcbld
  obtain rfl := Host.Outcome.next.inj hcbld
  have hlen : ∀ e ∈ ((s0.buildCodes k).respond .ok 0).codes k, e.clen.toNat ≤ Config.lmax k := by
    simpa using buildCodes_clen_le s0 k
  have hlens : ((s0.buildCodes k).respond .ok 0).lens k = s0.lens k := by simp
  rw [hlens]
  generalize (s0.buildCodes k).respond .ok 0 = s at hlarge hfree hlen
  have hexec := exec_tbld hsel s
  have hstream := SameStream_respond (setTree_sameStream s k (Tree.build (Config.nodecap k) (s.codes k) 0 Tree.empty).2)
  refine ⟨fun hkraft => ?_, fun hkraft => ?_⟩
  · have hok : ∀ i, i < Config.asize k → ¬ s.codeFails k i := by
      rintro i hi ⟨hne, hbig | ⟨j, hj, hnej, hbegins | hbegins⟩⟩
      · exact absurd (hlarge.mp ⟨i, hi, hne, hbig⟩) (Nat.not_lt.mpr hkraft)
      · exact hfree hkraft j i (by omega) hi (by omega) hnej hne hbegins
      · exact hfree hkraft i j hi (by omega) (by omega) hne hnej hbegins
    obtain ⟨t, ht, hbuild⟩ := build_completes hlen hok
    rw [hbuild] at hexec
    refine ⟨_, hexec, rfl, (ht.codesInserted _ _).stream, fun i hi hne => ?_⟩
    exact ((ht.codesInserted _ _).decodes _ _).mpr ⟨i, hi, hne, rfl, rfl⟩
  · obtain ⟨i, hi, hne, hbig⟩ := hlarge.mpr hkraft
    rw [build_violation hlen hi ⟨hne, .inl hbig⟩] at hexec
    exact ⟨_, hexec, rfl, hstream _ _⟩

end Sys2Proof.Machine
end

section
/-! SUPPORT. The commands that clear a tree or move its cursor: TCLR, TRST and TADV (R181, R189 to R191). -/

namespace Sys2Proof.Machine

/-! ### TCLR and TRST (R181, R189) -/

theorem exec_tclr {sel : BitVec 2} {k : Sel} (hsel : Config.selOf sel = some k) (s : State) :
    exec (.tclr sel) s = .next ((s.setTree k Tree.empty).respond .ok 0) := by
  show execTclr sel s = _
  simp only [execTclr, selOperand, hsel, answer]

theorem exec_trst {sel : BitVec 2} {k : Sel} (hsel : Config.selOf sel = some k) (s : State) :
    exec (.trst sel) s = .next ((s.setTree k (s.tree k).resetCursor).respond .ok 0) := by
  show execTrst sel s = _
  simp only [execTrst, selOperand, hsel, answer]

/-- Settles O28: each command replaces the one tree, by the root alone or by itself with the cursor on the root. -/
theorem tclrTrstResetTree : Obligations.TclrTrstResetTree := by
  unfold Obligations.TclrTrstResetTree
  intro s sel k hsel
  have hempty : ((s.setTree k Tree.empty).respond .ok 0).tree k = Tree.empty := by simp
  have hreset : ((s.setTree k (s.tree k).resetCursor).respond .ok 0).tree k = (s.tree k).resetCursor := by simp
  refine ⟨⟨_, exec_tclr hsel s, rfl, ?_, ?_, ?_, respond_setTree_frame s k _ _ _⟩,
    ⟨_, exec_trst hsel s, rfl, ?_, ?_, respond_setTree_frame s k _ _ _⟩⟩
  · rw [hempty]; rfl
  · rw [hempty]; rfl
  · rw [hempty]; rfl
  · rw [hreset]; rfl
  · rw [hreset]; rfl

/-! ### TADV (R190, R191) -/

theorem exec_tadv {sel : BitVec 2} {k : Sel} (hsel : Config.selOf sel = some k) (b : Bool) (s : State) :
    exec (.tadv sel b) s =
      .next ((s.setTree k ((s.tree k).advance b).2).respond .ok ((s.tree k).advance b).1.image) := by
  show execTadv sel b s = _
  simp only [execTadv, selOperand, hsel, answer]

/-- Without a child in the bit's direction the advance is Invalid and the cursor stays (R190). -/
theorem advance_of_no_child {t : Tree} {b : Bool} (h : (t.node t.cur).child b = none) :
    t.advance b = (.invalid, t) := by
  simp only [Tree.advance, h]

/-- A child that is a LEAF is the cursor's new place, and the advance gives its symbol (R190). -/
theorem advance_of_leaf {t : Tree} {b : Bool} {m : BitVec 12} {sym : BitVec 9} (h : (t.node t.cur).child b = some m)
    (hleaf : t.node m = .leaf sym) : t.advance b = (.symbol sym, { t with cur := m }) := by
  simp only [Tree.advance, h, hleaf]

/-- One that is INTERNAL is the cursor's new place, and the traversal is Pending (R190). -/
theorem advance_of_internal {t : Tree} {b : Bool} {m : BitVec 12} {d0 d1 : Option (BitVec 12)}
    (h : (t.node t.cur).child b = some m) (hnode : t.node m = .internal d0 d1) :
    t.advance b = (.pending, { t with cur := m }) := by
  simp only [Tree.advance, h, hnode]

/-- The result word of a symbol is kind 1 above it (R105). -/
theorem symbol_image (sym : BitVec 9) : (Advance.symbol sym).image = 0x40000000 ||| sym.setWidth 32 := by
  have hkind : (0x40000000 : Word) = (1#2 ++ 0#21) ++ 0#9 := by decide
  have hsym : sym.setWidth 32 = 0#23 ++ sym := BitVec.setWidth_eq_append (by decide)
  rw [Advance.image, hkind, hsym, BitVec.or_append]
  simp

/-- Settles O30: the answer and the cursor are those of the advance, by the child in the bit's direction. -/
theorem tadvMovesCursor : Obligations.TadvMovesCursor := by
  unfold Obligations.TadvMovesCursor
  intro s sel k b hsel
  have hexec := exec_tadv hsel b s
  have hinvalid : ((s.tree k).node (s.tree k).cur).child b = none →
      exec (.tadv sel b) s = .next (s.respond .ok 0x80000000) := fun hnone => by
    rw [hexec, advance_of_no_child hnone, setTree_tree_self]
    rfl
  refine ⟨fun sym hnode => ?_, fun c0 c1 hnode hnone => ?_, fun c0 c1 m sym hnode hchild hleaf => ?_,
    fun c0 c1 m d0 d1 hnode hchild hinternal => ?_⟩
  · exact hinvalid (by rw [hnode]; rfl)
  · exact hinvalid (by rw [hnode]; exact hnone)
  · rw [hexec, advance_of_leaf (by rw [hnode]; exact hchild) hleaf, symbol_image]
  · rw [hexec, advance_of_internal (by rw [hnode]; exact hchild) hinternal]
    rfl

end Sys2Proof.Machine
end

section
/-! SUPPORT. DecodeSymbol as a walk in the tree: one bit read is one step, until a LEAF, a bit without a child or the
end of the input (R192 to R194). -/

namespace Sys2Proof.Machine

/-! ### A traversal so far (R190, R192) -/

/-- From `s` to `t` exactly these bits were consumed, and but for the bit reader, the cursor of one tree and the answer
all is the same. -/
structure Traversed (k : Sel) (s : State) (bits : List Bool) (t : State) : Prop where
  stream : s.streamBits = bits ++ t.streamBits
  reader : t.readerOk
  bitpos : t.bitpos = s.bitpos + BitVec.ofNat 64 bits.length
  frame : SameOutsideTraversal k s t

theorem SameSession.trans {s t u : State} (h : SameSession s t) (h' : SameSession t u) : SameSession s u := by
  simp_all [SameSession]

theorem SameBlock.trans {s t u : State} (h : SameBlock s t) (h' : SameBlock t u) : SameBlock s u := by
  simp_all [SameBlock]

theorem SameLengths.trans {s t u : State} (h : SameLengths s t) (h' : SameLengths t u) : SameLengths s u := by
  simp_all [SameLengths]

theorem SameCodes.trans {s t u : State} (h : SameCodes s t) (h' : SameCodes t u) : SameCodes s u := by
  simp_all [SameCodes]

theorem SameWindow.trans {s t u : State} (h : SameWindow s t) (h' : SameWindow t u) : SameWindow s u := by
  simp_all [SameWindow]

theorem SameOutsideTraversal.trans {k : Sel} {s t u : State} (h : SameOutsideTraversal k s t)
    (h' : SameOutsideTraversal k t u) : SameOutsideTraversal k s u where
  nodes := h'.nodes.trans h.nodes
  trees j hj := (h'.trees j hj).trans (h.trees j hj)
  session := h.session.trans h'.session
  block := h.block.trans h'.block
  tables := ⟨h.tables.1.trans h'.tables.1, h.tables.2.trans h'.tables.2⟩
  window := h.window.trans h'.window
  port := h'.port.trans h.port

/-- Moving the cursor is within a traversal. -/
theorem moveCursor_sameOutsideTraversal (k : Sel) (s : State) (n : BitVec 12) :
    SameOutsideTraversal k s (s.setTree k { s.tree k with cur := n }) where
  nodes := by rw [setTree_tree_same]
  trees j hj := setTree_tree_other s k j _ hj
  session := by simp [SameSession]
  block := by simp [SameBlock]
  tables := by simp [SameLengths, SameCodes]
  window := by simp [SameWindow]
  port := by simp

theorem tree_eq_of_sameTrees {s t : State} (h : SameTrees s t) (k : Sel) : t.tree k = s.tree k := by
  obtain ⟨hcl, hll, hdist⟩ := h
  cases k
  · exact hcl
  · exact hll
  · exact hdist

/-- So is a read. -/
theorem sameOutsideTraversal_of_reader {s t : State} (h : SameOutsideReader s t) (k : Sel) :
    SameOutsideTraversal k s t := by
  obtain ⟨hsession, hblock, hlengths, hcodes, htrees, hwindow, hport⟩ := h
  exact {
    nodes := by rw [tree_eq_of_sameTrees htrees]
    trees := fun j _ => tree_eq_of_sameTrees htrees j
    session := hsession
    block := hblock
    tables := ⟨hlengths, hcodes⟩
    window := hwindow
    port := hport }

theorem Traversed.trans {k : Sel} {s t u : State} {bits more : List Bool} (h : Traversed k s bits t)
    (h' : Traversed k t more u) : Traversed k s (bits ++ more) u where
  stream := by rw [h.stream, h'.stream, List.append_assoc]
  reader := h'.reader
  bitpos := by rw [h'.bitpos, h.bitpos, BitVec.add_assoc, ← BitVec.ofNat_add, List.length_append]
  frame := h.frame.trans h'.frame

/-- The bit reader is not part of a tree. -/
theorem setTree_streamBits (s : State) (k : Sel) (t : Tree) : (s.setTree k t).streamBits = s.streamBits := by
  simp [State.streamBits]

theorem traversed_moveCursor (k : Sel) {s : State} (hr : s.readerOk) (n : BitVec 12) :
    Traversed k s [] (s.setTree k { s.tree k with cur := n }) where
  stream := by rw [List.nil_append, setTree_streamBits]
  reader := by simpa [State.readerOk] using hr
  bitpos := by simp
  frame := moveCursor_sameOutsideTraversal k s n

theorem traversed_refl (k : Sel) {s : State} (hr : s.readerOk) : Traversed k s [] s := by
  have h := traversed_moveCursor k hr (s.tree k).cur
  change Traversed k s [] (s.setTree k (s.tree k)) at h
  rwa [setTree_tree_self] at h

/-- What the stream holds after the bits consumed is left. -/
theorem Traversed.streamBits_eq {k : Sel} {s t : State} {bits rest : List Bool} (h : Traversed k s bits t)
    (hs : s.streamBits = bits ++ rest) : t.streamBits = rest :=
  List.append_cancel_left (h.stream.symm.trans hs)

/-! ### One bit (R192) -/

/-- While a bit is left, a read of one answers it. -/
theorem readBit_traversed (k : Sel) {s : State} {b : Bool} {rest : List Bool} (hr : s.readerOk)
    (hs : s.streamBits = b :: rest) :
    ∃ t, readBits 1 false s = .ok b.toNat t ∧ t.tree k = s.tree k ∧ Traversed k s [b] t := by
  have hleft : 1 ≤ s.bitsLeft := by
    rw [← streamBits_length, hs]
    exact Nat.succ_le_succ (Nat.zero_le _)
  obtain ⟨t, hread, hok, hstream⟩ := readBits_stream (by decide) false hr hleft
  obtain ⟨hpos, -, hframe, -⟩ := readBits_ok_frame (by decide) hread
  have htree := tree_eq_of_sameTrees hframe.2.2.2.2.1 k
  have hvalue : bitsValue (s.streamBits.take 1) = b.toNat := by
    rw [hs, List.take_succ_cons, List.take_zero]
    rfl
  rw [hvalue] at hread
  refine ⟨t, hread, htree, ?_, hok, hpos, sameOutsideTraversal_of_reader hframe k⟩
  have hrest : t.streamBits = rest := by
    rw [hstream, hs]
    rfl
  rw [hs, hrest]
  rfl

/-- The rest of a round of DecodeSymbol, after its advance (R192). -/
def afterAdvance (k : Sel) (fuel : Nat) (s : State) : Advance × Tree → Res (BitVec 9)
  | (.symbol sym, t) => .ok sym (s.setTree k t)
  | (.pending, t) => decodeBits k fuel (s.setTree k t)
  | (.invalid, t) => .err .invalidSymbolCode (s.setTree k t)

/-- A round of DecodeSymbol while a bit is left: the bit is consumed, and the tree advances by it. -/
theorem decodeBits_of_bit {k : Sel} {s : State} {b : Bool} {rest : List Bool} (hr : s.readerOk)
    (hs : s.streamBits = b :: rest) (fuel : Nat) :
    ∃ t, t.tree k = s.tree k ∧ Traversed k s [b] t ∧
      decodeBits k (fuel + 1) s = afterAdvance k fuel t ((t.tree k).advance b) := by
  obtain ⟨t, hread, htree, htrav⟩ := readBit_traversed k hr hs
  have hbit : (b.toNat == 1) = b := by cases b <;> rfl
  refine ⟨t, htree, htrav, ?_⟩
  rw [decodeBits, hread, Res.bind_ok, hbit]
  rfl

section
variable {k : Sel} {s : State} {b : Bool} {rest : List Bool} (hr : s.readerOk) (hs : s.streamBits = b :: rest)
include hr hs

/-- A bit to an INTERNAL node: the decode goes on from there. -/
theorem decodeBits_of_internal {n : BitVec 12} {c0 c1 : Option (BitVec 12)}
    (hchild : ((s.tree k).node (s.tree k).cur).child b = some n) (hnode : (s.tree k).node n = .internal c0 c1)
    (fuel : Nat) :
    ∃ t, decodeBits k (fuel + 1) s = decodeBits k fuel t ∧ (t.tree k).cur = n ∧ Traversed k s [b] t := by
  obtain ⟨t, htree, htrav, hdecode⟩ := decodeBits_of_bit (k := k) hr hs fuel
  rw [← htree] at hchild hnode
  rw [advance_of_internal hchild hnode] at hdecode
  exact ⟨_, hdecode, by rw [setTree_tree_same], htrav.trans (traversed_moveCursor k htrav.reader n)⟩

/-- A bit to a LEAF: its symbol. -/
theorem decodeBits_of_leaf {n : BitVec 12} {sym : BitVec 9}
    (hchild : ((s.tree k).node (s.tree k).cur).child b = some n) (hleaf : (s.tree k).node n = .leaf sym) (fuel : Nat) :
    ∃ t, decodeBits k (fuel + 1) s = .ok sym t ∧ (t.tree k).cur = n ∧ Traversed k s [b] t := by
  obtain ⟨t, htree, htrav, hdecode⟩ := decodeBits_of_bit (k := k) hr hs fuel
  rw [← htree] at hchild hleaf
  rw [advance_of_leaf hchild hleaf] at hdecode
  exact ⟨_, hdecode, by rw [setTree_tree_same], htrav.trans (traversed_moveCursor k htrav.reader n)⟩

/-- A bit without a child: InvalidSymbolCode, the bit consumed and the cursor kept. -/
theorem decodeBits_of_no_child (hnone : ((s.tree k).node (s.tree k).cur).child b = none) (fuel : Nat) :
    ∃ t, decodeBits k (fuel + 1) s = .err .invalidSymbolCode t ∧ (t.tree k).cur = (s.tree k).cur ∧
      Traversed k s [b] t := by
  obtain ⟨t, htree, htrav, hdecode⟩ := decodeBits_of_bit (k := k) hr hs fuel
  rw [← htree] at hnone
  rw [advance_of_no_child hnone, afterAdvance, setTree_tree_self] at hdecode
  exact ⟨t, hdecode, by rw [htree], htrav⟩

end

/-- No bit left: the end of the input, the cursor kept. -/
theorem decodeBits_of_end {k : Sel} {s : State} (hr : s.readerOk) (hs : s.streamBits = []) (fuel : Nat) :
    ∃ t, decodeBits k (fuel + 1) s = .err .unexpectedEndOfInput t ∧ (t.tree k).cur = (s.tree k).cur ∧
      Traversed k s [] t := by
  have hleft : s.bitsLeft < 1 := by
    rw [← streamBits_length, hs]
    decide
  obtain ⟨hstream, hok⟩ := toppedUp_streamBits (n := 1) (by decide) hr
  refine ⟨s.toppedUp 1, ?_, by rw [setReader_tree], ?_, hok, by simp,
    sameOutsideTraversal_of_reader (setReader_sameOutsideReader s _) k⟩
  · rw [decodeBits, readBits_of_bitsLeft_lt (by decide) false hleft, Res.bind_err]
  · rw [hstream, List.nil_append]

/-! ### The bits of a path (R192) -/

/-- A node with a child is INTERNAL. -/
theorem internal_of_child {t : Tree} {n m : BitVec 12} {b : Bool} (h : (t.node n).child b = some m) :
    ∃ c0 c1, t.node n = .internal c0 c1 := by
  cases hnode : t.node n with
  | internal c0 c1 => exact ⟨c0, c1, rfl⟩
  | leaf sym => rw [hnode] at h; cases h

/-- The root is INTERNAL (R39). -/
theorem root_internal {cap : Nat} {t : Tree} (h : t.wf cap) : ∃ c0 c1, t.node 0 = .internal c0 c1 := by
  obtain ⟨c0, c1, hroot⟩ := h.root
  exact ⟨c0, c1, congrArg (fun o => o.getD (Config.unusedNode 0)) hroot⟩

/-- A walk to an INTERNAL node starts at one. -/
theorem internal_of_walk {t : Tree} {x n : BitVec 12} {bits : List Bool} {c0 c1 : Option (BitVec 12)}
    (hwalk : t.walk x bits = some n) (hnode : t.node n = .internal c0 c1) : ∃ d0 d1, t.node x = .internal d0 d1 := by
  cases bits with
  | nil => exact ⟨c0, c1, by rw [Option.some.inj hwalk, hnode]⟩
  | cons b rest =>
    rw [walk_cons_eq_bind] at hwalk
    obtain ⟨_, hchild, -⟩ := Option.bind_eq_some_iff.mp hwalk
    exact internal_of_child hchild

theorem node_of_nodes_eq {t u : Tree} (h : u.nodes = t.nodes) (n : BitVec 12) : u.node n = t.node n := by
  rw [Tree.node, Tree.node, h]

/-- The nodes alone make a tree's walks. -/
theorem walk_of_nodes_eq {t u : Tree} (h : u.nodes = t.nodes) (n : BitVec 12) (bits : List Bool) :
    u.walk n bits = t.walk n bits := by
  induction bits generalizing n with
  | nil => rfl
  | cons b rest ih => simp only [walk_cons_eq_bind, node_of_nodes_eq h, ih]

/-- Bits that lead from the cursor to an INTERNAL node bring a decode there. -/
theorem decodeBits_of_walk {k : Sel} {s : State} {bits rest : List Bool} {n : BitVec 12} {c0 c1 : Option (BitVec 12)}
    (hr : s.readerOk) (hs : s.streamBits = bits ++ rest) (hwalk : (s.tree k).walk (s.tree k).cur bits = some n)
    (hnode : (s.tree k).node n = .internal c0 c1) (fuel : Nat) :
    ∃ t, decodeBits k (bits.length + fuel) s = decodeBits k fuel t ∧ (t.tree k).cur = n ∧ Traversed k s bits t := by
  induction bits generalizing s rest with
  | nil => exact ⟨s, by rw [List.length_nil, Nat.zero_add], Option.some.inj hwalk, traversed_refl k hr⟩
  | cons b more ih =>
    rw [walk_cons_eq_bind] at hwalk
    obtain ⟨m, hchild, hm⟩ := Option.bind_eq_some_iff.mp hwalk
    obtain ⟨d0, d1, hint⟩ := internal_of_walk hm hnode
    obtain ⟨t, hdecode, hcur, htrav⟩ := decodeBits_of_internal hr hs hchild hint (more.length + fuel)
    have hnodes := htrav.frame.nodes
    obtain ⟨u, hdecode', hcur', htrav'⟩ := ih htrav.reader (htrav.streamBits_eq hs)
      (by rw [hcur, walk_of_nodes_eq hnodes, hm]) (by rw [node_of_nodes_eq hnodes, hnode])
    refine ⟨u, ?_, hcur', htrav.trans htrav'⟩
    rw [← hdecode', ← hdecode, List.length_cons, Nat.add_right_comm]

/-- Bits that lead from the root to an INTERNAL node bring DecodeSymbol there, with fuel above the bits left. -/
theorem decodeSymbol_of_walk {k : Sel} {s : State} {bits rest : List Bool} {n : BitVec 12} {c0 c1 : Option (BitVec 12)}
    (hr : s.readerOk) (hs : s.streamBits = bits ++ rest) (hwalk : (s.tree k).walk 0 bits = some n)
    (hnode : (s.tree k).node n = .internal c0 c1) :
    ∃ t, decodeSymbol k s = decodeBits k (rest.length + 1) t ∧ (t.tree k).cur = n ∧ t.streamBits = rest ∧
      (∀ m, (t.tree k).node m = (s.tree k).node m) ∧ Traversed k s bits t := by
  have hreset : Traversed k s [] (s.setTree k (s.tree k).resetCursor) := traversed_moveCursor k hr 0
  have hnodes := hreset.frame.nodes
  have hcur : ((s.setTree k (s.tree k).resetCursor).tree k).cur = 0 := by rw [setTree_tree_same]; rfl
  obtain ⟨t, hdecode, hcur', htrav⟩ := decodeBits_of_walk hreset.reader (hreset.streamBits_eq hs)
    (by rw [hcur, walk_of_nodes_eq hnodes, hwalk]) (by rw [node_of_nodes_eq hnodes, hnode]) (rest.length + 1)
  have htotal := hreset.trans htrav
  refine ⟨t, ?_, hcur', htotal.streamBits_eq hs, node_of_nodes_eq htotal.frame.nodes, htotal⟩
  rw [decodeSymbol, ← hdecode, ← streamBits_length, hs, List.length_append, Nat.add_assoc]

/-- Settles O31: DecodeSymbol walks along the stream's bits while they lead to INTERNAL nodes; the bit after them leads
to a LEAF or has no child, or there is none. -/
theorem decodeSymbolFollowsCode : Obligations.DecodeSymbolFollowsCode := by
  unfold Obligations.DecodeSymbolFollowsCode
  intro s k hr hwf
  refine ⟨fun bits rest sym hcode hs => ?_, fun bits b rest n c0 c1 hwalk hnode hnone hs => ?_,
    fun n c0 c1 hwalk hnode => ?_⟩
  · obtain ⟨n, hwalk, hleaf⟩ := hcode
    rcases List.eq_nil_or_concat' bits with rfl | ⟨before, b, rfl⟩
    · obtain rfl : 0 = n := Option.some.inj hwalk
      obtain ⟨d0, d1, hroot⟩ := root_internal hwf
      cases hroot.symm.trans hleaf
    · obtain ⟨y, hy, hchild⟩ := walk_concat_iff.mp hwalk
      obtain ⟨d0, d1, hint⟩ := internal_of_child hchild
      rw [List.append_assoc] at hs
      obtain ⟨t, hdecode, hcur, hrest, hsame, htrav⟩ := decodeSymbol_of_walk hr hs hy hint
      obtain ⟨u, hlast, hcur', htrav'⟩ := decodeBits_of_leaf htrav.reader hrest (by rw [hcur, hsame, hchild])
        ((hsame n).trans hleaf) _
      have htotal := htrav.trans htrav'
      exact ⟨u, hdecode.trans hlast, htrav'.streamBits_eq hrest, htotal.reader, htotal.bitpos, by rw [hwalk, hcur'],
        htotal.frame⟩
  · obtain ⟨t, hdecode, hcur, hrest, hsame, htrav⟩ := decodeSymbol_of_walk hr hs hwalk hnode
    obtain ⟨u, hlast, hcur', htrav'⟩ := decodeBits_of_no_child htrav.reader hrest (by rw [hcur, hsame, hnone]) _
    have htotal := htrav.trans htrav'
    exact ⟨u, hdecode.trans hlast, htrav'.streamBits_eq hrest, htotal.reader, by simpa using htotal.bitpos,
      hcur'.trans hcur, htotal.frame⟩
  · obtain ⟨t, hdecode, hcur, hrest, -, htrav⟩ := decodeSymbol_of_walk hr (List.append_nil _).symm hwalk hnode
    obtain ⟨u, hlast, hcur', htrav'⟩ := decodeBits_of_end (k := k) htrav.reader hrest 0
    have htotal := htrav.trans htrav'
    rw [List.append_nil] at htotal
    exact ⟨u, hdecode.trans hlast, htrav'.streamBits_eq hrest, htotal.reader, htotal.bitpos, hcur'.trans hcur,
      htotal.frame⟩

end Sys2Proof.Machine
end

section
/-! SUPPORT. What the pieces of a block leave as it is, as equations between states with the parts they write left out;
and the errors they raise, which are those with a code from 2 to 8 (R211 to R237, R281). -/

namespace Sys2Proof.Machine

/-! ### States with a part left out -/

/-- Without the bit reader (R29 to R31, R66). -/
def State.withoutReader (s : State) : State := { s with brAcc := 0, brCnt := 0, bitpos := 0, input := [] }

/-- Without the window, its registers and the output (R42 to R45). -/
def State.withoutWindow (s : State) : State := { s with win := [], wptr := 0, wfill := 0, outcnt := 0, output := [] }

/-- Without the sequence of code lengths, the count of them and lastLength (R36, R218). -/
def State.withoutSequence (s : State) : State :=
  { s with
    lenLL := Vector.replicate 288 0
    lenDIST := Vector.replicate 32 0
    loc := { s.loc with k := 0, lastLength := 0 } }

/-- Without the bit reader and the cursor of one tree: what DecodeSymbol leaves as it is (R192). -/
def State.outsideSymbol (k : Sel) (s : State) : State := s.withoutReader.setTree k (s.tree k).resetCursor

/-- What the reading of the code-length alphabet leaves as it is (R216). -/
def State.outsideClLengths (s : State) : State :=
  { s with
    brAcc := 0, brCnt := 0, bitpos := 0, input := []
    lenCL := Vector.replicate 19 0 }

/-- What the code-length symbols leave as it is, beside DecodeSymbol (R218). -/
def State.outsideLengths (s : State) : State :=
  { s with
    brAcc := 0, brCnt := 0, bitpos := 0, input := []
    treeCL := s.treeCL.resetCursor, treeLL := s.treeLL.resetCursor, treeDIST := s.treeDIST.resetCursor
    lenLL := Vector.replicate 288 0, lenDIST := Vector.replicate 32 0
    loc := { s.loc with k := 0, lastLength := 0 } }

/-- What the literals, length codes and distance codes leave as it is, beside DecodeSymbol (R226). -/
def State.outsideData (s : State) : State :=
  { s with
    brAcc := 0, brCnt := 0, bitpos := 0, input := []
    treeCL := s.treeCL.resetCursor, treeLL := s.treeLL.resetCursor, treeDIST := s.treeDIST.resetCursor
    win := [], wptr := 0, wfill := 0, outcnt := 0, output := []
    loc := { s.loc with length := 0 } }

/-- What a block leaves as it is before its end: the session, the count of blocks and the ports (R236). -/
def State.outsideBlock (s : State) : State :=
  { State.reset with
    sstate := s.sstate, errCode := s.errCode, errBlock := s.errBlock, errPhase := s.errPhase
    errBitpos := s.errBitpos, blkcnt := s.blkcnt, staged := s.staged, cmds := s.cmds, resp := s.resp }

section
variable {s t : State}

/-- What does not see the part left out is the same in two states that are the same without it. -/
theorem eq_of_without {α : Type} (f : State → α) {g : State → State} (h : g t = g s)
    (hf : f ∘ g = f) : f t = f s := by
  rw [← hf]
  exact congrArg f h

theorem sameSession_of_outsideBlock (h : t.outsideBlock = s.outsideBlock) : SameSession s t :=
  ⟨eq_of_without State.sstate h rfl, eq_of_without State.errCode h rfl, eq_of_without State.errBlock h rfl,
    eq_of_without State.errPhase h rfl, eq_of_without State.errBitpos h rfl⟩

/-- What a read leaves as it is, part by part. -/
theorem sameOutsideReader_of_withoutReader (h : t.withoutReader = s.withoutReader) : SameOutsideReader s t :=
  ⟨sameSession_of_outsideBlock (eq_of_without State.outsideBlock h rfl),
    ⟨eq_of_without State.blkcnt h rfl, eq_of_without State.bhdr h rfl, eq_of_without State.phase h rfl,
      eq_of_without State.loc h rfl, eq_of_without State.staged h rfl⟩,
    ⟨eq_of_without State.lenCL h rfl, eq_of_without State.lenLL h rfl, eq_of_without State.lenDIST h rfl⟩,
    ⟨eq_of_without State.codeCL h rfl, eq_of_without State.codeLL h rfl, eq_of_without State.codeDIST h rfl⟩,
    ⟨eq_of_without State.treeCL h rfl, eq_of_without State.treeLL h rfl, eq_of_without State.treeDIST h rfl⟩,
    ⟨fun i => eq_of_without (fun u => Memory.read u.win i) h rfl, eq_of_without State.wptr h rfl,
      eq_of_without State.wfill h rfl, eq_of_without State.outcnt h rfl, eq_of_without State.output h rfl⟩,
    eq_of_without State.cmds h rfl⟩

end

/-! ### How a piece ends -/

/-- A stream error: one with a code from 2 to 8 (R281, R282). -/
abbrev StreamError (e : Status) : Prop := 2 ≤ e.code.toNat ∧ e.code.toNat ≤ 8

/-- Where a piece goes on, its state satisfies the first property; where it raises, it raises a stream error, in a
state with the second. -/
def Res.Ends {α : Type} (P Q : State → Prop) : Res α → Prop
  | .ok _ s => P s
  | .err e s => StreamError e ∧ Q s
  | .stuck => True

/-- One property of the state a piece ends in, either way. -/
abbrev Res.Keeps {α : Type} (P : State → Prop) (r : Res α) : Prop := r.Ends P P

theorem Res.Ends.of_ok {α : Type} {P Q : State → Prop} {r : Res α} {a : α} {t : State} (h : r.Ends P Q)
    (hr : r = .ok a t) : P t := by
  subst hr
  exact h

theorem Res.Ends.mono {α : Type} {P P' Q Q' : State → Prop} {r : Res α} (h : r.Ends P Q) (hp : ∀ t, P t → P' t)
    (hq : ∀ t, Q t → Q' t) : r.Ends P' Q' := by
  cases r with
  | ok a t => exact hp t h
  | err e t => exact ⟨h.1, hq t h.2⟩
  | stuck => trivial

theorem Res.Ends.bind {α β : Type} {P P' Q Q' : State → Prop} {r : Res α} {f : α → State → Res β} (hr : r.Ends P Q)
    (hq : ∀ t, Q t → Q' t) (hf : ∀ a t, r = .ok a t → P t → (f a t).Ends P' Q') : (r.bind f).Ends P' Q' := by
  cases r with
  | ok a t => exact hf a t rfl hr
  | err e t => exact ⟨hr.1, hq t hr.2⟩
  | stuck => trivial

/-! ### Symbols -/

variable {c : State}

theorem readBits_ends (n : Nat) (s : State) :
    (readBits n false s).Keeps fun t => t.withoutReader = s.withoutReader := by
  simp only [readBits]
  split
  · rfl
  · exact ⟨by decide, rfl⟩

theorem setTree_outsideSymbol {s : State} {k : Sel} {t : Tree} (h : t.resetCursor = (s.tree k).resetCursor) :
    (s.setTree k t).outsideSymbol k = s.outsideSymbol k := by
  cases k <;> simp_all [State.setTree, State.outsideSymbol, State.withoutReader, State.tree]

theorem advance_resetCursor (t : Tree) (b : Bool) : (t.advance b).2.resetCursor = t.resetCursor := by
  simp only [Tree.advance]
  split
  · rfl
  · split <;> rfl

theorem decodeBits_ends (k : Sel) (fuel : Nat) {s : State} (h : s.outsideSymbol k = c) :
    (decodeBits k fuel s).Keeps fun t => t.outsideSymbol k = c := by
  induction fuel generalizing s with
  | zero => trivial
  | succ fuel ih =>
    refine (readBits_ends 1 s).bind (fun t ht => (eq_of_without (State.outsideSymbol k) ht rfl).trans h)
      fun b s1 _ h1 => ?_
    have hmoved := (setTree_outsideSymbol (advance_resetCursor (s1.tree k) (b == 1))).trans
      ((eq_of_without (State.outsideSymbol k) h1 rfl).trans h)
    split
    case h_1 sym t hadv => rwa [hadv] at hmoved
    case h_2 t hadv =>
      rw [hadv] at hmoved
      exact ih hmoved
    case h_3 t hadv =>
      rw [hadv] at hmoved
      exact ⟨by decide, hmoved⟩

theorem decodeSymbol_ends (k : Sel) (s : State) :
    (decodeSymbol k s).Keeps fun t => t.outsideSymbol k = s.outsideSymbol k :=
  decodeBits_ends k _ (setTree_outsideSymbol rfl)

theorem putLength_withoutSequence (v : BitVec 4) (s : State) :
    (putLength v s).withoutSequence = s.withoutSequence := by
  simp only [putLength]
  split <;> rfl

theorem putLengths_withoutSequence (v : BitVec 4) (n : Nat) (s : State) :
    (putLengths v n s).withoutSequence = s.withoutSequence := by
  induction n generalizing s with
  | zero => rfl
  | succ n ih => rw [putLengths, ih, putLength_withoutSequence]

theorem repeatLast_ends (n : Nat) {s : State} (h : s.outsideLengths = c) :
    (repeatLast n s).Keeps fun t => t.outsideLengths = c := by
  simp only [repeatLast]
  split
  · exact ⟨by decide, h⟩
  · exact (eq_of_without State.outsideLengths (putLengths_withoutSequence _ _ s) rfl).trans h

/-- A code-length symbol writes the reader and the sequence alone (R219 to R222). -/
theorem clSymbol_ends (v : Nat) (s : State) : (clSymbol v s).Keeps fun t => t.outsideLengths = s.outsideLengths := by
  have hread : ∀ {n : Nat} {f : Nat → State → Res Unit},
      (∀ x t, t.outsideLengths = s.outsideLengths → (f x t).Keeps fun u => u.outsideLengths = s.outsideLengths) →
      ((readBits n false s).bind f).Keeps fun t => t.outsideLengths = s.outsideLengths := fun hf =>
    (readBits_ends _ s).bind (fun _ ht => eq_of_without State.outsideLengths ht rfl) fun x t _ ht =>
      hf x t (eq_of_without State.outsideLengths ht rfl)
  simp only [clSymbol]
  split
  · exact eq_of_without State.outsideLengths
      (show (setLastLength _ (putLength _ s)).withoutSequence = _ from putLength_withoutSequence _ s) rfl
  · split
    · exact hread fun x t ht => repeatLast_ends _ ht
    · split
      · exact hread fun x t ht => repeatLast_ends _ ht
      · split
        · exact hread fun x t ht => repeatLast_ends _ ht
        · exact ⟨by decide, rfl⟩

theorem copyBytes_withoutWindow (dist n : Nat) (s : State) : (copyBytes dist n s).withoutWindow = s.withoutWindow := by
  induction n generalizing s with
  | zero => rfl
  | succ n ih => rw [copyBytes, ih]; rfl

/-- An LL symbol but the end of block writes the reader, the window and the length alone (R227, R229). -/
theorem llSymbol_ends {v : Nat} (hv : v ≠ 256) (s : State) :
    (llSymbol v s).Keeps fun t => t.outsideData = s.outsideData := by
  simp only [llSymbol, if_neg hv]
  split
  · rfl
  · split
    · exact (readBits_ends _ s).bind (fun _ ht => eq_of_without State.outsideData ht rfl) fun x t _ ht =>
        (eq_of_without State.outsideData ht rfl :)
    · exact ⟨by decide, rfl⟩

/-- A distance symbol writes the reader and the window alone (R232, R235). -/
theorem distSymbol_ends (v : Nat) (s : State) : (distSymbol v s).Keeps fun t => t.outsideData = s.outsideData := by
  simp only [distSymbol]
  split
  · refine (readBits_ends _ s).bind (fun _ ht => eq_of_without State.outsideData ht rfl) fun x t _ ht => ?_
    split
    · exact ⟨by decide, eq_of_without State.outsideData ht rfl⟩
    · exact (eq_of_without State.outsideData (copyBytes_withoutWindow _ _ t) rfl).trans
        (eq_of_without State.outsideData ht rfl)
  · exact ⟨by decide, rfl⟩

/-! ### The pieces of a block -/

theorem readClLengths_ends (syms : List Nat) (s : State) :
    (readClLengths syms s).Keeps fun t => t.outsideClLengths = s.outsideClLengths := by
  induction syms generalizing s with
  | nil => rfl
  | cons sym rest ih =>
    refine (readBits_ends 3 s).bind (fun t ht => eq_of_without State.outsideClLengths ht rfl) fun v t _ ht => ?_
    have hkept : (t.setLen .cl sym (BitVec.ofNat 4 v)).outsideClLengths = s.outsideClLengths :=
      (eq_of_without State.outsideClLengths ht rfl :)
    exact (ih _).mono (fun u hu => hu.trans hkept) fun u hu => hu.trans hkept

theorem lengthLoop_ends (fuel : Nat) {s : State} (h : s.outsideLengths = c) :
    (lengthLoop fuel s).Keeps fun t => t.outsideLengths = c := by
  induction fuel generalizing s with
  | zero => trivial
  | succ fuel ih =>
    simp only [lengthLoop]
    split
    · refine (decodeSymbol_ends .cl s).bind (fun t ht => (eq_of_without State.outsideLengths ht rfl).trans h)
        fun v t _ ht => ?_
      have ht := (eq_of_without State.outsideLengths ht rfl).trans h
      exact (clSymbol_ends _ t).bind (fun _ hu => hu.trans ht) fun _ _ _ hu => ih (hu.trans ht)
    · exact h

/-- BuildTree from the lengths of its alphabet writes one code table and one tree, and does not run out of nodes
(R186, R187). -/
theorem buildTree_ends (k : Sel) (s : State) : (buildTree k (s.buildCodes k)).Ends
    (fun t => ∃ u, Tree.build (Config.nodecap k) ((s.buildCodes k).codes k) 0 Tree.empty = (none, u) ∧
      t = (s.buildCodes k).setTree k u)
    (fun t => ∃ u, t = (s.buildCodes k).setTree k u) := by
  have hroom := build_ne_capacity (buildCodes_clen_le s k)
  have hraises := fun e => build_raises (Config.nodecap k) ((s.buildCodes k).codes k) 0 Tree.empty (e := e)
  rcases hbuild : Tree.build (Config.nodecap k) ((s.buildCodes k).codes k) 0 Tree.empty with ⟨_ | e, t⟩
  · simp only [buildTree, hbuild]
    exact ⟨t, rfl, rfl⟩
  · simp only [buildTree, hbuild] at hroom hraises ⊢
    rcases hraises e rfl with rfl | hcode
    · exact absurd rfl hroom
    · exact ⟨hcode, t, rfl⟩

/-! ### A block before its end (R211, R236) -/

/-- A block is in progress that `c` stands outside of: the session, the count of blocks and the ports are those of `c`,
and PHASE is not yet BlockDone. -/
def InBlock (c t : State) : Prop := t.outsideBlock = c ∧ t.phase ≠ .blockDone

theorem inBlock_of_lengths {s t : State} (hs : InBlock c s) (h : t.outsideLengths = s.outsideLengths) : InBlock c t :=
  ⟨(eq_of_without State.outsideBlock h rfl).trans hs.1, by rw [eq_of_without State.phase h rfl]; exact hs.2⟩

theorem inBlock_of_data {s t : State} (hs : InBlock c s) (h : t.outsideData = s.outsideData) : InBlock c t :=
  ⟨(eq_of_without State.outsideBlock h rfl).trans hs.1, by rw [eq_of_without State.phase h rfl]; exact hs.2⟩

theorem inBlock_of_reader {s t : State} (hs : InBlock c s) (h : t.withoutReader = s.withoutReader) : InBlock c t :=
  inBlock_of_data hs (eq_of_without State.outsideData h rfl)

theorem InBlock.setPhase {s : State} (h : InBlock c s) (p : Phase)
    (hp : p ≠ .blockDone) : InBlock c (s.setPhase p) :=
  ⟨h.1, hp⟩

theorem InBlock.setBhdr {s : State} (h : InBlock c s) (lo n v : Nat) : InBlock c (s.setBhdr lo n v) := h

theorem readBits_inBlock (n : Nat) {s : State} (h : InBlock c s) : (readBits n false s).Keeps (InBlock c) :=
  (readBits_ends n s).mono (fun _ ht => inBlock_of_reader h ht) fun _ ht => inBlock_of_reader h ht

theorem readHeader_inBlock (s : State) : (readHeader s).Keeps (InBlock s.outsideBlock) := by
  have h0 : InBlock s.outsideBlock ((s.setLoc Locals.idle).setPhase .readBlockHeader) := ⟨rfl, nofun⟩
  refine (readBits_inBlock 1 h0).bind (fun _ h => h) fun bfinal s1 _ h1 => ?_
  refine (readBits_inBlock 2 (h1.setBhdr 0 1 bfinal)).bind (fun _ h => h) fun btype s2 _ h2 => ?_
  exact h2

theorem blockType_inBlock (v : Nat) {s : State} (h : InBlock c s) : (blockType v s).Keeps (InBlock c) := by
  simp only [blockType]
  split
  · refine (readBits_inBlock 5 (h.setPhase .readCodeLengthAlphabet nofun)).bind (fun _ h => h) fun hlit s1 _ h1 => ?_
    refine (readBits_inBlock 5 (h1.setBhdr 3 5 hlit)).bind (fun _ h => h) fun hdist s2 _ h2 => ?_
    refine (readBits_inBlock 4 (h2.setBhdr 8 5 hdist)).bind (fun _ h => h) fun hclen s3 _ h3 => ?_
    exact h3
  · exact ⟨by decide, h⟩

theorem readClAlphabet_inBlock {s : State} (h : InBlock c s) : (readClAlphabet s).Keeps (InBlock c) := by
  have hkept : ∀ t : State, t.outsideClLengths = (s.clearLens .cl).outsideClLengths → InBlock c t := fun t ht =>
    ⟨(eq_of_without State.outsideBlock ht rfl).trans h.1, by rw [eq_of_without State.phase ht rfl]; exact h.2⟩
  exact (readClLengths_ends _ _).mono hkept hkept

theorem buildTree_inBlock (k : Sel) {s : State} (h : InBlock c s) :
    (buildTree k (s.buildCodes k)).Keeps (InBlock c) := by
  have hkept : ∀ u, InBlock c ((s.buildCodes k).setTree k u) := fun u => by cases k <;> exact h
  refine (buildTree_ends k s).mono ?_ ?_
  · rintro t ⟨u, -, rfl⟩
    exact hkept u
  · rintro t ⟨u, rfl⟩
    exact hkept u

theorem decodeLengths_inBlock {s : State} (h : InBlock c s) : (decodeLengths s).Keeps (InBlock c) := by
  have hstart : InBlock c (startLengths s) := h.setPhase .decodeLLAndDistLengths nofun
  exact (lengthLoop_ends _ rfl).mono (fun _ ht => inBlock_of_lengths hstart ht) fun _ ht => inBlock_of_lengths hstart ht

theorem buildDataTrees_inBlock {s : State} (h : InBlock c s) : (buildDataTrees s).Keeps (InBlock c) :=
  (buildTree_inBlock .ll (h.setPhase .buildLLAndDistTrees nofun)).bind (fun _ h => h) fun _ _ _ h1 =>
    buildTree_inBlock .dist h1

/-! ### The end of a block (R228, R236) -/

/-- A symbol that DecodeSymbol gives is that of the LEAF its cursor rests on (R190, R192). -/
theorem decodeBits_leafAt {k : Sel} {fuel : Nat} {s t : State} {sym : BitVec 9} (h : decodeBits k fuel s = .ok sym t) :
    (t.tree k).leafAt (t.tree k).cur sym := by
  induction fuel generalizing s with
  | zero => cases h
  | succ fuel ih =>
    obtain ⟨b, s1, -, hround⟩ := Res.bind_eq_ok h
    split at hround
    case h_1 u hadv =>
      cases hround
      rw [setTree_tree_same]
      simp only [Tree.advance] at hadv
      split at hadv
      · cases hadv
      · split at hadv
        · rename_i hleaf
          cases hadv
          exact hleaf
        · cases hadv
    case h_2 => exact ih hround
    case h_3 => cases hround

/-- The loop of DecodeSymbols ends with the end of block, the LL cursor on its LEAF (R226, R228, R239). -/
theorem dataLoop_ends (fuel : Nat) {s : State} (h : s.outsideData = c) : (dataLoop fuel s).Ends
    (fun t => ∃ u : State, t = u.blockDone ∧ u.outsideData = c ∧ u.treeLL.leafAt u.treeLL.cur 256)
    (fun t => t.outsideData = c) := by
  induction fuel generalizing s with
  | zero => trivial
  | succ fuel ih =>
    have hsymbol : ∀ t : State, t.outsideSymbol .ll = s.outsideSymbol .ll → t.outsideData = c := fun t ht =>
      (eq_of_without State.outsideData ht rfl).trans h
    refine (decodeSymbol_ends .ll s).bind hsymbol fun sym s1 hdecode h1 => ?_
    have h1 := hsymbol s1 h1
    by_cases hend : sym.toNat = 256
    · have hleaf := decodeBits_leafAt hdecode
      have hsym : sym = 256 := BitVec.eq_of_toNat_eq hend
      rw [hsym] at hleaf
      simp only [hend, llSymbol, endOfBlock]
      exact ⟨s1, rfl, h1, hleaf⟩
    · refine (llSymbol_ends hend s1).bind (fun _ h2 => h2.trans h1) fun _ s2 _ h2 => ?_
      rw [if_neg hend]
      split
      · exact ih (h2.trans h1)
      · refine (decodeSymbol_ends .dist s2).bind
          (fun t ht => (eq_of_without State.outsideData ht rfl).trans (h2.trans h1)) fun dsym s3 _ h3 => ?_
        have h3 := (eq_of_without State.outsideData h3 rfl).trans (h2.trans h1)
        exact (distSymbol_ends _ s3).bind (fun _ h4 => h4.trans h3) fun _ _ _ h4 => ih (h4.trans h3)

/-- A block ends with BlockDone, or with a stream error while it is in progress (R211, R236, R285). -/
theorem decodeBlock_ends (s : State) : (decodeBlock s).Ends
    (fun t => ∃ u : State, t = u.blockDone ∧ InBlock s.outsideBlock u) (InBlock s.outsideBlock) := by
  refine (readHeader_inBlock s).bind (fun _ h => h) fun btype s1 _ h1 => ?_
  refine (blockType_inBlock btype h1).bind (fun _ h => h) fun _ s2 _ h2 => ?_
  refine (readClAlphabet_inBlock h2).bind (fun _ h => h) fun _ s3 _ h3 => ?_
  refine (buildTree_inBlock .cl (h3.setPhase .buildClTree nofun)).bind (fun _ h => h) fun _ s4 _ h4 => ?_
  refine (decodeLengths_inBlock h4).bind (fun _ h => h) fun _ s5 _ h5 => ?_
  refine (buildDataTrees_inBlock h5).bind (fun _ h => h) fun _ s6 _ h6 => ?_
  have h6' : InBlock s.outsideBlock (s6.setPhase .decodeSymbols) := h6.setPhase .decodeSymbols nofun
  refine (dataLoop_ends _ rfl).mono ?_ fun t ht => inBlock_of_data h6' ht
  rintro t ⟨u, rfl, hu, -⟩
  exact ⟨u, rfl, inBlock_of_data h6' hu⟩

end Sys2Proof.Machine
end

section
/-! SUPPORT. DBLK as a whole: how it ends (R212, R236, R283); and DSTR as DBLK repeated, for which the answer of the
last command and the fuel of the loop make no difference (R237). -/

namespace Sys2Proof.Machine

/-! ### How DBLK ends (R212, R236, R283) -/

theorem exec_dblk_of_ready {s : State} (hs : s.sstate = .ready) :
    exec .dblk s = finishBlocks (fun t => t.bhdr.setWidth 32) (decodeBlock s) := by
  show execDblk s = _
  simp only [execDblk, hs]

theorem exec_dstr_of_ready {s : State} (hs : s.sstate = .ready) :
    exec .dstr s = finishBlocks (fun t => t.blkcnt) (streamLoop (s.bitsLeft + 1) s) := by
  show execDstr s = _
  simp only [execDstr, hs]

/-- Bytes once put out stay (R45). -/
theorem outputPrefix_blockClosed (out : List Byte) : BlockClosed fun t => out <+: t.output where
  setPhase _ _ h := h
  setLoc _ _ h := h
  setBhdr _ _ _ _ h := h
  topUp _ _ _ h := h
  consume _ _ _ _ h := h
  setLen _ _ _ _ h := by simpa using h
  clearLens _ _ h := by simpa using h
  buildCodes _ _ h := by simpa using h
  buildTree _ _ h := by simpa using h
  resetCursor _ _ h := by simpa using h
  advance _ _ _ h := by simpa using h
  append _ _ h := h.trans (List.prefix_append _ _)
  blockDone _ h := h

/-- The session state a block in READY ends in (R236, R288). -/
theorem blockDone_sstate_of_inBlock {s u : State} (hs : s.sstate = .ready) (hu : InBlock s.outsideBlock u) :
    u.blockDone.sstate = if u.bhdr.getLsbD 0 then .done else .ready := by
  obtain ⟨hstate, -⟩ := sameSession_of_outsideBlock hu.1
  rw [blockDone_sstate, hstate, hs]

/-- PHASE before BlockDone is at most 5 (R35). -/
theorem phase_toBits_le {p : Phase} (h : p ≠ .blockDone) : p.toBits.toNat ≤ 5 := by
  cases p
  case blockDone => exact absurd rfl h
  all_goals decide

/-- Settles O45: the block goes on to BlockDone or raises a stream error before it, by `decodeBlock_ends`; the session,
the count of blocks and the ports are outside of it. -/
theorem dblkEndsDoneOrLatched : Obligations.DblkEndsDoneOrLatched := by
  unfold Obligations.DblkEndsDoneOrLatched
  intro s hs
  have hends := decodeBlock_ends s
  have hout : (decodeBlock s).Holds fun t => s.output <+: t.output :=
    decodeBlock_holds (outputPrefix_blockClosed s.output) List.prefix_rfl
  rw [exec_dblk_of_ready hs]
  cases hblock : decodeBlock s with
  | ok _ t =>
    rw [hblock] at hends hout
    obtain ⟨u, rfl, hu⟩ := hends
    obtain ⟨-, hcode, herrblock, hphase, hpos⟩ := sameSession_of_outsideBlock hu.1
    have hcount : u.blkcnt = s.blkcnt := eq_of_without State.blkcnt hu.1 rfl
    refine ⟨_, rfl, rfl, (eq_of_without State.staged hu.1 rfl :), (eq_of_without State.cmds hu.1 rfl :), hout, .inl ?_⟩
    exact ⟨rfl, rfl, congrArg (· + 1) hcount, blockDone_sstate_of_inBlock hs hu, hcode, herrblock, hphase, hpos⟩
  | err e t =>
    rw [hblock] at hends hout
    obtain ⟨⟨hge, hle⟩, hstay, hphase⟩ := hends
    refine ⟨_, rfl, rfl, (eq_of_without State.staged hstay rfl :), (eq_of_without State.cmds hstay rfl :), hout,
      .inr ⟨e, hge, hle, ?_⟩⟩
    exact ⟨rfl, rfl, rfl, (eq_of_without State.blkcnt hstay rfl :), rfl, rfl, phase_toBits_le hphase, rfl⟩
  | stuck => exact absurd (decodeBlock_within s) (by rw [hblock]; exact id)

/-! ### The last answer makes no difference (R23) -/

/-- The state with another answer on the command port. -/
def State.withResp (s : State) (r : Option Response) : State := { s with resp := r }

/-- The same ending with every state changed. -/
def Res.onState {α : Type} (f : State → State) : Res α → Res α
  | .ok a s => .ok a (f s)
  | .err e s => .err e (f s)
  | .stuck => .stuck

/-- A piece that does not read the answer on the command port, and leaves it. -/
def AnswerBlind {α : Type} (f : State → Res α) : Prop := ∀ s r, f (s.withResp r) = (f s).onState fun t => t.withResp r

theorem AnswerBlind.bind {α β : Type} {f : State → Res α} {g : α → State → Res β} (hf : AnswerBlind f)
    (hg : ∀ a, AnswerBlind (g a)) : AnswerBlind fun s => (f s).bind g := fun s r => by
  simp only [hf s r]
  cases f s with
  | ok a t => exact hg a t r
  | err e t => rfl
  | stuck => rfl

/-- After an update that leaves the answer. -/
theorem AnswerBlind.after {α : Type} {f : State → Res α} (hf : AnswerBlind f) {u : State → State}
    (hu : ∀ s r, u (s.withResp r) = (u s).withResp r) : AnswerBlind fun s => f (u s) :=
  fun s r => by
    show f (u (s.withResp r)) = _
    rw [hu]
    exact hf (u s) r

/-- A choice by a condition that does not read the answer. -/
theorem AnswerBlind.ite {α : Type} {p : State → Prop} [DecidablePred p] {f g : State → Res α} (hf : AnswerBlind f)
    (hg : AnswerBlind g) (hp : ∀ s r, p (s.withResp r) ↔ p s) :
    AnswerBlind fun s => if p s then f s else g s := fun s r => by
  simp only [hp s r]
  split
  · exact hf s r
  · exact hg s r

theorem answerBlind_err {α : Type} (e : Status) : AnswerBlind fun s => (.err e s : Res α) := fun _ _ => rfl

theorem withResp_tree (s : State) (r : Option Response) (k : Sel) : (s.withResp r).tree k = s.tree k := by
  cases k <;> rfl

theorem withResp_setTree (s : State) (r : Option Response) (k : Sel) (t : Tree) :
    (s.withResp r).setTree k t = (s.setTree k t).withResp r := by
  cases k <;> rfl

theorem readBits_answerBlind (n : Nat) : AnswerBlind (readBits n false) :=
  AnswerBlind.ite (p := fun s => (topUp n s.input s.brAcc s.brCnt).enough = true) (fun _ _ => rfl) (fun _ _ => rfl)
    fun _ _ => Iff.rfl

theorem decodeBits_answerBlind (k : Sel) (fuel : Nat) : AnswerBlind (decodeBits k fuel) := by
  induction fuel with
  | zero => exact fun _ _ => rfl
  | succ fuel ih =>
    refine (readBits_answerBlind 1).bind fun b s r => ?_
    simp only [withResp_tree, withResp_setTree]
    split
    · rfl
    · exact ih _ r
    · rfl

theorem decodeSymbol_answerBlind (k : Sel) : AnswerBlind (decodeSymbol k) := fun s r => by
  have hstart : (s.withResp r).setTree k ((s.withResp r).tree k).resetCursor =
      (s.setTree k (s.tree k).resetCursor).withResp r := by rw [withResp_tree, withResp_setTree]
  show decodeBits k (s.bitsLeft + 1) _ = _
  rw [hstart]
  exact decodeBits_answerBlind k _ _ r

theorem buildTree_answerBlind (k : Sel) : AnswerBlind fun s => buildTree k (s.buildCodes k) := fun s r => by
  have hcodes : (s.withResp r).buildCodes k = (s.buildCodes k).withResp r := by cases k <;> rfl
  have hread : ((s.buildCodes k).withResp r).codes k = (s.buildCodes k).codes k := by cases k <;> rfl
  simp only [hcodes, buildTree, hread, withResp_setTree]
  split <;> rfl

theorem putLengths_withResp (v : BitVec 4) (n : Nat) (s : State) (r : Option Response) :
    putLengths v n (s.withResp r) = (putLengths v n s).withResp r := by
  induction n generalizing s with
  | zero => rfl
  | succ n ih =>
    have hput : putLength v (s.withResp r) = (putLength v s).withResp r := by
      have hcond : ((s.withResp r).loc.k < (s.withResp r).loc.numLL) = (s.loc.k < s.loc.numLL) := rfl
      simp only [putLength, hcond]
      split <;> rfl
    rw [putLengths, hput, ih, putLengths]

theorem repeatLast_answerBlind (n : Nat) : AnswerBlind (repeatLast n) :=
  AnswerBlind.ite (answerBlind_err _) (fun s r => congrArg (Res.ok ()) (putLengths_withResp _ _ s r))
    fun _ _ => Iff.rfl

theorem clSymbol_answerBlind (v : Nat) : AnswerBlind (clSymbol v) := by
  unfold clSymbol
  split
  · exact fun s r => congrArg (fun t => Res.ok () (setLastLength _ t)) (putLengths_withResp _ 1 s r)
  · split
    · exact (readBits_answerBlind 2).bind fun x => repeatLast_answerBlind _
    · split
      · exact (readBits_answerBlind 3).bind fun x => ((repeatLast_answerBlind _).after (by intros; rfl))
      · split
        · exact (readBits_answerBlind 7).bind fun x => ((repeatLast_answerBlind _).after (by intros; rfl))
        · exact answerBlind_err _

theorem copyBytes_withResp (dist n : Nat) (s : State) (r : Option Response) :
    copyBytes dist n (s.withResp r) = (copyBytes dist n s).withResp r := by
  induction n generalizing s with
  | zero => rfl
  | succ n ih => exact ih (s.append (Memory.read s.win (s.behind dist)))

theorem llSymbol_answerBlind (v : Nat) : AnswerBlind (llSymbol v) := by
  unfold llSymbol
  split
  · exact fun _ _ => rfl
  · split
    · exact fun _ _ => rfl
    · split
      · exact (readBits_answerBlind _).bind fun _ _ _ => rfl
      · exact answerBlind_err _

theorem distSymbol_answerBlind (v : Nat) : AnswerBlind (distSymbol v) := by
  unfold distSymbol
  split
  · exact (readBits_answerBlind _).bind fun x =>
      AnswerBlind.ite (answerBlind_err _) (fun s r => congrArg (Res.ok ()) (copyBytes_withResp _ _ s r))
        fun _ _ => Iff.rfl
  · exact answerBlind_err _

theorem blockType_answerBlind (v : Nat) : AnswerBlind (blockType v) := by
  unfold blockType
  split
  · exact ((readBits_answerBlind 5).after (by intros; rfl)).bind fun hlit =>
      ((readBits_answerBlind 5).after (by intros; rfl)).bind fun hdist =>
      ((readBits_answerBlind 4).after (by intros; rfl)).bind fun hclen _ _ => rfl
  · exact answerBlind_err _

theorem readHeader_answerBlind : AnswerBlind readHeader :=
  ((readBits_answerBlind 1).after (by intros; rfl)).bind fun _ =>
    ((readBits_answerBlind 2).after (by intros; rfl)).bind fun _ _ _ => rfl

theorem readClLengths_answerBlind (syms : List Nat) : AnswerBlind (readClLengths syms) := by
  induction syms with
  | nil => exact fun _ _ => rfl
  | cons sym rest ih => exact (readBits_answerBlind 3).bind fun v => ih.after (by intros; rfl)

theorem lengthLoop_answerBlind (fuel : Nat) : AnswerBlind (lengthLoop fuel) := by
  induction fuel with
  | zero => exact fun _ _ => rfl
  | succ fuel ih =>
    exact AnswerBlind.ite ((decodeSymbol_answerBlind .cl).bind fun sym => (clSymbol_answerBlind _).bind fun _ => ih)
      (fun _ _ => rfl) fun _ _ => Iff.rfl

theorem dataLoop_answerBlind (fuel : Nat) : AnswerBlind (dataLoop fuel) := by
  induction fuel with
  | zero => exact fun _ _ => rfl
  | succ fuel ih =>
    refine (decodeSymbol_answerBlind .ll).bind fun sym => (llSymbol_answerBlind _).bind fun _ => ?_
    split
    · exact fun _ _ => rfl
    · split
      · exact ih
      · exact (decodeSymbol_answerBlind .dist).bind fun dsym => (distSymbol_answerBlind _).bind fun _ => ih

theorem decodeBlock_answerBlind : AnswerBlind decodeBlock := by
  refine readHeader_answerBlind.bind fun btype => (blockType_answerBlind btype).bind fun _ => ?_
  refine AnswerBlind.bind (fun s r => readClLengths_answerBlind (perm.take s.loc.numCL) (s.clearLens .cl) r) fun _ => ?_
  refine AnswerBlind.bind ((buildTree_answerBlind .cl).after (u := fun s => s.setPhase .buildClTree) fun _ _ => rfl)
    fun _ => ?_
  refine AnswerBlind.bind (fun s r => lengthLoop_answerBlind (s.bitsLeft + 1) (startLengths s) r) fun _ => ?_
  refine AnswerBlind.bind (((buildTree_answerBlind .ll).after
    (u := fun s => s.setPhase .buildLLAndDistTrees) fun _ _ => rfl).bind
    fun _ => buildTree_answerBlind .dist) fun _ => ?_
  exact fun s r => dataLoop_answerBlind (s.bitsLeft + 1) (s.setPhase .decodeSymbols) r

theorem streamLoop_answerBlind (fuel : Nat) : AnswerBlind (streamLoop fuel) := by
  induction fuel with
  | zero => exact fun _ _ => rfl
  | succ fuel ih =>
    intro s r
    have hblocks := (decodeBlock_answerBlind.bind fun _ => ih) s r
    have hstate : (s.withResp r).sstate = s.sstate := rfl
    simp only [streamLoop, hstate]
    split
    · exact hblocks
    · rfl
    · rfl

/-! ### DSTR goes on with the next block (R237) -/

/-- Fuel above the bits left makes no difference to the stream loop (R322). -/
theorem streamLoop_eq_of_bitsLeft_lt (n m : Nat) {s : State} (hn : s.bitsLeft < n) (hm : s.bitsLeft < m) :
    streamLoop n s = streamLoop m s := by
  induction n generalizing m s with
  | zero => omega
  | succ n ih =>
    cases m with
    | zero => omega
    | succ m =>
      simp only [streamLoop]
      split
      · cases hblock : decodeBlock s with
        | ok _ t =>
          have hdrop := decodeBlock_ok_bitsLeft hblock
          exact ih m (by omega) (by omega)
        | err e t => rfl
        | stuck => rfl
      · rfl
      · rfl

/-- The command's end replaces the answer, whatever it was. -/
theorem finishBlocks_onState_withResp (result : State → Word) (r : Res Unit) (resp : Option Response)
    (hresult : ∀ s, result (s.withResp resp) = result s) :
    finishBlocks result (r.onState fun t => t.withResp resp) = finishBlocks result r := by
  cases r with
  | ok _ s => exact congrArg (fun w => answer w (s.setLoc Locals.idle)) (hresult s)
  | err e s => rfl
  | stuck => rfl

/-- A block begins by giving up the values local to the one before, so DSTR from where DBLK ends is DSTR going on. -/
theorem exec_dstr_after_dblk {u : State} (hu : u.sstate = .ready) (w : Word) :
    exec .dstr ((u.setLoc Locals.idle).respond .ok w) =
      finishBlocks (fun t => t.blkcnt) (streamLoop (u.bitsLeft + 1) u) := by
  have hready : ((u.setLoc Locals.idle).respond .ok w).sstate = .ready := hu
  have hloc : streamLoop (u.bitsLeft + 1) (u.setLoc Locals.idle) = streamLoop (u.bitsLeft + 1) u := by
    simp only [streamLoop, setLoc_sstate, hu]
    rfl
  have hblind := streamLoop_answerBlind (u.bitsLeft + 1) (u.setLoc Locals.idle) (some { status := .ok, result := w })
  rw [hloc] at hblind
  rw [exec_dstr_of_ready hready]
  exact (congrArg _ hblind).trans (finishBlocks_onState_withResp _ _ _ fun _ => rfl)

/-- Settles O50: DSTR's first round is the block DBLK decodes; the rounds after it are DSTR from the state DBLK leaves,
as neither the answer nor the local values nor the fuel make a difference. -/
theorem dstrIsRepeatedDblk : Obligations.DstrIsRepeatedDblk := by
  unfold Obligations.DstrIsRepeatedDblk
  intro s t hs hdblk
  have hends := decodeBlock_ends s
  rw [exec_dblk_of_ready hs] at hdblk
  have hdstr : exec .dstr s = finishBlocks (fun t => t.blkcnt)
      ((decodeBlock s).bind fun _ s1 => streamLoop s.bitsLeft s1) := by
    rw [exec_dstr_of_ready hs]
    simp only [streamLoop, hs]
  rw [hdstr]
  cases hblock : decodeBlock s with
  | ok _ u =>
    rw [hblock] at hdblk hends
    obtain rfl := Host.Outcome.next.inj hdblk
    have hdrop := decodeBlock_ok_bitsLeft hblock
    have hfuel := streamLoop_eq_of_bitsLeft_lt s.bitsLeft (u.bitsLeft + 1) hdrop (Nat.lt_succ_self _)
    rw [Res.bind_ok, hfuel]
    refine ⟨fun hready => (exec_dstr_after_dblk (u := u) hready _).symm, fun hdone => ?_, fun hfaulted => ?_⟩
    · have hstate : u.sstate = .done := hdone
      simp only [streamLoop, hstate]
      rfl
    · obtain ⟨v, rfl, hv⟩ := hends
      have hstate : v.blockDone.sstate = .faulted := hfaulted
      rw [blockDone_sstate_of_inBlock hs hv] at hstate
      split at hstate <;> cases hstate
  | err e u =>
    rw [hblock] at hdblk
    obtain rfl := Host.Outcome.next.inj hdblk
    exact ⟨nofun, nofun, fun _ => rfl⟩
  | stuck =>
    rw [hblock] at hdblk
    cases hdblk

end Sys2Proof.Machine
end

section
/-! SUPPORT. The stream rows run on their own: the literals, the end of block, the length codes, the distance codes with
their copies, and the symbols without a meaning (R226 to R235). -/

namespace Sys2Proof.Machine

/-! ### A row and its end (R241, R283) -/

/-- Settles O43: `exec_of_encode_symbol`, kind by kind. -/
theorem streamRowsMatchBlockDecoder : Obligations.StreamRowsMatchBlockDecoder := by
  unfold Obligations.StreamRowsMatchBlockDecoder
  intro s i kind v h
  rw [exec_of_encode_symbol h]
  cases kind <;> rfl

/-- A block's error is latched over the state it is raised in, with the PHASE there (R283, R285). -/
theorem blockError_errorLatched (e : Status) (s : State) : ErrorLatched e s.phase.toBits s (blockError e s) where
  code := rfl
  block := rfl
  phase := rfl
  bitpos := rfl
  session := rfl
  answer := rfl
  reader := ⟨rfl, rfl, rfl, rfl⟩
  registers := ⟨rfl, rfl, rfl, rfl⟩
  tables := ⟨⟨rfl, rfl, rfl⟩, ⟨rfl, rfl, rfl⟩, rfl, rfl, rfl⟩
  window := ⟨fun _ => rfl, rfl, rfl, rfl, rfl⟩
  port := rfl

/-- The same with the PHASE of a state that the error's state shares it with. -/
theorem blockError_errorLatched_of_phase {e : Status} {s u : State} (h : u.phase = s.phase) :
    ErrorLatched e s.phase.toBits u (blockError e u) := by
  rw [← h]
  exact blockError_errorLatched e u

/-- A row whose extra bits the input cannot supply latches the end of the input, with no bit consumed (R143). -/
theorem finishSymbol_of_short {n : Nat} (hn : n ≤ 32) {s : State} (hr : s.readerOk) (h : s.bitsLeft < n)
    (f : Nat → State → Res Unit) : ∃ u t, finishSymbol ((readBits n false s).bind f) = .next t ∧
      u.streamBits = s.streamBits ∧ u.bitpos = s.bitpos ∧ SameOutsideReader s u ∧
      ErrorLatched .unexpectedEndOfInput s.phase.toBits u t := by
  refine ⟨s.toppedUp n, blockError .unexpectedEndOfInput (s.toppedUp n), ?_, (toppedUp_streamBits hn hr).1, rfl,
    setReader_sameOutsideReader s _, blockError_errorLatched_of_phase rfl⟩
  rw [readBits_of_bitsLeft_lt hn false h]
  rfl

/-! ### Symbols without a meaning, literals and the end of block (R227, R228, R230, R231) -/

/-- Settles O42: each of the four rows raises InvalidSymbolCode in the state as it is. -/
theorem meaninglessSymbolsInvalid : Obligations.MeaninglessSymbolsInvalid := by
  unfold Obligations.MeaninglessSymbolsInvalid
  intro s i hi
  refine ⟨blockError .invalidSymbolCode s, ?_, blockError_errorLatched _ _⟩
  rcases hi with rfl | rfl | rfl | rfl <;> rfl

/-- Settles O38: the row is BlockDone. -/
theorem endOfBlockCountsBlock : Obligations.EndOfBlockCountsBlock := by
  unfold Obligations.EndOfBlockCountsBlock
  refine fun s => ⟨s.blockDone, rfl, rfl, rfl, fun hfinal => ?_, fun hmore => ?_, rfl⟩
  · rw [blockDone_sstate, if_pos hfinal]
  · rw [blockDone_sstate, hmore]
    rfl

theorem llSymbol_of_literal {v : BitVec 9} (hv : v.toNat ≤ 255) (s : State) :
    llSymbol v.toNat s = .ok () (s.append (v.setWidth 8)) := by
  rw [llSymbol, if_pos hv, BitVec.ofNat_toNat]
  rfl

/-- Settles O37: the row is one Append. -/
theorem literalAppendsByte : Obligations.LiteralAppendsByte := by
  unfold Obligations.LiteralAppendsByte
  intro s i v hi hv
  have hexec : exec i s = .next (s.append (v.setWidth 8)) := by
    rw [exec_of_encode_symbol hi]
    exact congrArg finishSymbol (llSymbol_of_literal hv s)
  refine ⟨_, hexec, fun j => ?_, ?_, fillNext_toNat _, rfl, rfl, ⟨rfl, rfl, rfl, rfl, rfl⟩, ⟨rfl, rfl, rfl, rfl⟩,
    ⟨rfl, rfl, rfl, rfl, rfl⟩, ⟨rfl, rfl, rfl⟩, ⟨rfl, rfl, rfl⟩, ⟨rfl, rfl, rfl⟩, rfl, rfl⟩
  · rw [append_win]
    split
    case isTrue hj => rw [hj, read_write_same]
    case isFalse hj => exact read_write_other _ _ _ _ hj
  · rw [append_wptr, BitVec.toNat_add]
    rfl

/-! ### Length codes (R229) -/

/-- With its bits left a read answers them, and but for the reader all is as before. -/
theorem readBits_next {n : Nat} (hn : n ≤ 32) {s : State} (hr : s.readerOk) (h : n ≤ s.bitsLeft) :
    ∃ t, readBits n false s = .ok (bitsValue (s.streamBits.take n)) t ∧ t.readerOk ∧
      t.streamBits = s.streamBits.drop n ∧ t.bitpos = s.bitpos + BitVec.ofNat 64 n ∧
      t.withoutReader = s.withoutReader := by
  obtain ⟨t, hread, hok, hstream⟩ := readBits_stream hn false hr h
  obtain ⟨hpos, -⟩ := readBits_ok_frame (by omega) hread
  exact ⟨t, hread, hok, hstream, hpos, (readBits_ends n s).of_ok hread⟩

theorem bitsValue_lt (bits : List Bool) : bitsValue bits < 2 ^ bits.length := by
  induction bits with
  | nil => decide
  | cons b rest ih =>
    have hb := b.toNat_le
    rw [bitsValue, List.length_cons, Nat.pow_succ]
    omega

theorem bitsValue_take_lt (bits : List Bool) (n : Nat) : bitsValue (bits.take n) < 2 ^ n :=
  Nat.lt_of_lt_of_le (bitsValue_lt _) (Nat.pow_le_pow_right (by decide) (List.length_take_le _ _))

theorem llSymbol_of_lengthEntry {v e base : Nat} (hv : 257 ≤ v) (h : lengthTable[v - 257]? = some (e, base))
    (s : State) : llSymbol v s = lengthCode e base s := by
  rw [llSymbol, if_neg (by omega), if_neg (by omega), h]

/-- The lengths of a row of the table are from 3 to 258 (R118). -/
theorem lengthTable_bounds {i e base : Nat} (h : lengthTable[i]? = some (e, base)) :
    3 ≤ base ∧ base + 2 ^ e ≤ 259 :=
  (by decide : ∀ p ∈ lengthTable, 3 ≤ p.2 ∧ p.2 + 2 ^ p.1 ≤ 259) _ (List.mem_of_getElem? h)

/-- Settles O39: the row reads its extra bits and writes the length. -/
theorem lengthCodeSetsLength : Obligations.LengthCodeSetsLength := by
  unfold Obligations.LengthCodeSetsLength
  intro s i v hr hi hv hv'
  have hlt : v.toNat - 257 < lengthTable.length := by
    show v.toNat - 257 < 29
    omega
  obtain ⟨⟨e, base⟩, hentry⟩ : ∃ p, lengthTable[v.toNat - 257]? = some p := ⟨_, List.getElem?_eq_getElem hlt⟩
  have he : e ≤ 32 := Nat.le_trans (lengthTable_extra hentry) (by decide)
  have hexec : exec i s = finishSymbol (lengthCode e base s) := by
    rw [exec_of_encode_symbol hi]
    exact congrArg finishSymbol (llSymbol_of_lengthEntry hv hentry s)
  rw [hexec]
  refine ⟨e, base, hentry, fun hleft => ?_, fun hshort => finishSymbol_of_short he hr hshort _⟩
  obtain ⟨u, hread, hok, hstream, hpos, hkept⟩ := readBits_next he hr hleft
  have hloc : u.loc = s.loc := eq_of_without State.loc hkept rfl
  obtain ⟨hmin, hmax⟩ := lengthTable_bounds hentry
  have hvalue := bitsValue_take_lt s.streamBits e
  rw [lengthCode, hread]
  refine ⟨_, rfl, by rw [← hloc]; rfl, Nat.le_trans hmin (Nat.le_add_right _ _), ?_, hstream,
    hok, hpos, ?_, (eq_of_without State.resp hkept rfl :)⟩
  · show base + _ ≤ 258
    omega
  · rw [← hloc]
    exact sameOutsideReader_of_withoutReader hkept

/-! ### Back-references (R231 to R235) -/

theorem distSymbol_of_entry {v e base : Nat} (h : distanceTable[v]? = some (e, base)) (s : State) :
    distSymbol v s = distanceCode e base s := by
  rw [distSymbol, h]

theorem exec_dist_of_entry {i : Instr} {v : BitVec 9} {e base : Nat} (hi : encode i = .symbol .dist v)
    (h : distanceTable[v.toNat]? = some (e, base)) (s : State) :
    exec i s = finishSymbol (distanceCode e base s) := by
  rw [exec_of_encode_symbol hi]
  exact congrArg finishSymbol (distSymbol_of_entry h s)

/-- A distance is at least 1 (R119). -/
theorem distanceTable_pos {i e base : Nat} (h : distanceTable[i]? = some (e, base)) : 1 ≤ base :=
  (by decide : ∀ p ∈ distanceTable, 1 ≤ p.2) _ (List.mem_of_getElem? h)

/-- With its bits left a distance code is refused when it reaches back too far, and is a copy when it does not. -/
theorem distanceCode_next {e base : Nat} (he : e ≤ 32) {s : State} (hr : s.readerOk) (h : e ≤ s.bitsLeft) :
    ∃ u, u.readerOk ∧ u.streamBits = s.streamBits.drop e ∧ u.bitpos = s.bitpos + BitVec.ofNat 64 e ∧
      u.withoutReader = s.withoutReader ∧
      distanceCode e base s = if s.wfill.toNat < base + bitsValue (s.streamBits.take e)
        then .err .backReferenceOutOfRange u
        else .ok () (copyBytes (base + bitsValue (s.streamBits.take e)) s.loc.length u) := by
  obtain ⟨u, hread, hok, hstream, hpos, hkept⟩ := readBits_next he hr h
  have hfill : u.wfill = s.wfill := eq_of_without State.wfill hkept rfl
  have hloc : u.loc = s.loc := eq_of_without State.loc hkept rfl
  refine ⟨u, hok, hstream, hpos, hkept, ?_⟩
  rw [distanceCode, hread, Res.bind_ok, hfill, hloc]

/-- The window is never fuller than its size, nor than the output is long (R44). -/
theorem wfill_le_of_windowOk {s : State} (h : s.windowOk) :
    s.wfill.toNat ≤ 32768 ∧ s.wfill.toNat ≤ s.output.length := by
  obtain ⟨-, hsize, hout, -⟩ := h
  exact ⟨hsize, hout⟩

/-- Every index behind the write pointer by at most WFILL has been written (R233). -/
theorem lookup_behind_ne_none {s : State} (h : s.windowOk) {d : Nat} (h1 : 1 ≤ d) (hd : d ≤ s.wfill.toNat) :
    Memory.lookup s.win (s.behind d) ≠ none := by
  obtain ⟨-, -, hout, hbytes⟩ := h
  rw [hbytes d h1 hd, List.getElem?_eq_getElem (by omega)]
  exact Option.some_ne_none _

/-- Settles O40: the distance is checked against WFILL before the copy, and within WFILL the window is written. -/
theorem distanceTooFarLatches : Obligations.DistanceTooFarLatches := by
  unfold Obligations.DistanceTooFarLatches
  intro s i v e base hr hi hentry hleft
  have he : e ≤ 32 := Nat.le_trans (distanceTable_extra hentry) (by decide)
  obtain ⟨u, -, hstream, hpos, hkept, hcode⟩ := distanceCode_next (base := base) he hr hleft
  rw [exec_dist_of_entry hi hentry, hcode]
  refine ⟨fun hfar => ?_, fun hnear hwindow => ⟨?_, fun d h1 hd => ?_⟩⟩
  · rw [if_pos hfar]
    exact ⟨u, _, rfl, hstream, hpos, sameOutsideReader_of_withoutReader hkept,
      blockError_errorLatched_of_phase (eq_of_without State.phase hkept rfl)⟩
  · rw [if_neg (Nat.not_lt.mpr hnear)]
    refine ⟨_, rfl, sameSession_of_outsideBlock ?_⟩
    exact (eq_of_without State.outsideBlock (copyBytes_withoutWindow _ _ u) rfl).trans
      (eq_of_without State.outsideBlock hkept rfl)
  · exact lookup_behind_ne_none hwindow h1 (Nat.le_trans hd hnear)

/-- What a repeat puts after the output: each byte the one `d` places before it, itself possibly just put out. -/
theorem repeatBack_spec {d : Nat} (h1 : 1 ≤ d) (n : Nat) {out : List Byte} (hd : d ≤ out.length) :
    (repeatBack d n out).length = out.length + n ∧ out <+: repeatBack d n out ∧
    ∀ j, j < n → (repeatBack d n out)[out.length + j]? = (repeatBack d n out)[out.length + j - d]? := by
  induction n generalizing out with
  | zero => exact ⟨rfl, List.prefix_rfl, nofun⟩
  | succ n ih =>
    have hlen : (out ++ [out.getD (out.length - d) 0]).length = out.length + 1 := by simp
    obtain ⟨ihlen, ihpre, ihget⟩ := ih (out := out ++ [out.getD (out.length - d) 0]) (by omega)
    rw [repeatBack]
    refine ⟨by rw [ihlen, hlen]; omega, (List.prefix_append _ _).trans ihpre, fun j hj => ?_⟩
    cases j with
    | zero =>
      obtain ⟨more, hmore⟩ := ihpre
      have hback : out.length - d < out.length := by omega
      rw [← hmore, Nat.add_zero, List.append_assoc, List.getElem?_append_right (Nat.le_refl _),
        List.getElem?_append_left hback]
      simp [hback]
    | succ j =>
      have hstep := ihget j (by omega)
      rw [hlen] at hstep
      have hplace : out.length + (j + 1) = out.length + 1 + j := by omega
      rw [hplace, hstep]

/-- The byte a copy reads is the output's, that far back (R64, R235). -/
theorem read_behind {s : State} (h : s.windowOk) {d : Nat} (h1 : 1 ≤ d) (hd : d ≤ s.wfill.toNat) :
    Memory.read s.win (s.behind d) = s.output.getD (s.output.length - d) 0 := by
  obtain ⟨-, -, hout, hbytes⟩ := h
  have hback : s.output.length - d < s.output.length := by omega
  rw [Memory.read, hbytes d h1 hd]
  simp [hback]

/-- A copy repeats the output (R235, R78). -/
theorem copyBytes_output {d : Nat} (h1 : 1 ≤ d) (n : Nat) {s : State} (h : s.windowOk) (hd : d ≤ s.wfill.toNat) :
    (copyBytes d n s).output = repeatBack d n s.output := by
  induction n generalizing s with
  | zero => rfl
  | succ n ih =>
    have hgrows : d ≤ (s.append (Memory.read s.win (s.behind d))).wfill.toNat := by
      obtain ⟨hsize, -⟩ := wfill_le_of_windowOk h
      rw [append_wfill, fillNext_toNat]
      omega
    rw [copyBytes, ih (append_windowOk _ h) hgrows, append_output, read_behind h h1 hd, repeatBack]

theorem copyBytes_windowOk (d n : Nat) {s : State} (h : s.windowOk) : (copyBytes d n s).windowOk :=
  copyBytes_holds windowOk_stepClosed.toBlockClosed d n h

theorem copyBytes_outputGrown (d n : Nat) {s : State} (h : s.windowOk) : OutputGrown s (copyBytes d n s) :=
  copyBytes_holds (OutputGrown_execClosed s).toBlockClosed d n (OutputGrown_refl (wfill_le_of_windowOk h).1)

/-- A copy writes the window, its registers and the output alone. -/
theorem same_of_withoutWindow {s t : State} (h : t.withoutWindow = s.withoutWindow) :
    SameSession s t ∧ SameBlock s t ∧ SameLengths s t ∧ SameCodes s t ∧ SameTrees s t ∧ t.cmds = s.cmds ∧
      t.resp = s.resp :=
  ⟨sameSession_of_outsideBlock (eq_of_without State.outsideBlock h rfl),
    ⟨eq_of_without State.blkcnt h rfl, eq_of_without State.bhdr h rfl, eq_of_without State.phase h rfl,
      eq_of_without State.loc h rfl, eq_of_without State.staged h rfl⟩,
    ⟨eq_of_without State.lenCL h rfl, eq_of_without State.lenLL h rfl, eq_of_without State.lenDIST h rfl⟩,
    ⟨eq_of_without State.codeCL h rfl, eq_of_without State.codeLL h rfl, eq_of_without State.codeDIST h rfl⟩,
    ⟨eq_of_without State.treeCL h rfl, eq_of_without State.treeLL h rfl, eq_of_without State.treeDIST h rfl⟩,
    eq_of_without State.cmds h rfl, eq_of_without State.resp h rfl⟩

theorem SameTrees.trans {s t u : State} (h : SameTrees s t) (h' : SameTrees t u) : SameTrees s u := by
  simp_all [SameTrees]

/-- Settles O41: within WFILL the window holds the output, so that the copy repeats it; the registers move on with the
output's length. -/
theorem backReferenceCopiesOutput : Obligations.BackReferenceCopiesOutput := by
  unfold Obligations.BackReferenceCopiesOutput
  intro s i v e base hr hwindow hi hentry
  have he : e ≤ 32 := Nat.le_trans (distanceTable_extra hentry) (by decide)
  rw [exec_dist_of_entry hi hentry]
  refine ⟨fun hleft hnear => ?_, fun hshort => finishSymbol_of_short he hr hshort _⟩
  obtain ⟨u, hok, hstream, hpos, hkept, hcode⟩ := distanceCode_next (base := base) he hr hleft
  rw [hcode, if_neg (Nat.not_lt.mpr hnear)]
  have h1 : 1 ≤ base + bitsValue (s.streamBits.take e) := Nat.le_trans (distanceTable_pos hentry) (Nat.le_add_right _ _)
  generalize base + bitsValue (s.streamBits.take e) = d at hnear h1
  have hfill : u.wfill = s.wfill := eq_of_without State.wfill hkept rfl
  have hout : u.output = s.output := eq_of_without State.output hkept rfl
  have hwindow' : u.windowOk := windowOk_of_window_eq hwindow (eq_of_without State.win hkept rfl)
    (eq_of_without State.wptr hkept rfl) hfill hout
  have hcopy := copyBytes_output h1 s.loc.length hwindow' (by rwa [hfill])
  obtain ⟨hlen, hpre, hget⟩ := repeatBack_spec h1 s.loc.length (out := u.output) (by
    rw [hout]
    exact Nat.le_trans hnear (wfill_le_of_windowOk hwindow).2)
  obtain ⟨bytes, hbytes, hcnt, hwptr, hfill'⟩ := copyBytes_outputGrown d s.loc.length hwindow'
  have hcount : bytes.length = s.loc.length := by
    rw [← hcopy, hbytes, List.length_append] at hlen
    omega
  have hstay := copyBytes_withoutWindow d s.loc.length u
  obtain ⟨hsession', hblock', hlengths', hcodes', htrees', hcmds', hresp'⟩ := same_of_withoutWindow hstay
  obtain ⟨hsession, hblock, hlengths, hcodes, htrees, -, hcmds⟩ := sameOutsideReader_of_withoutReader hkept
  rw [hout] at hlen hpre hget hcopy
  rw [hcount, eq_of_without State.outcnt hkept rfl] at hcnt
  rw [hcount, eq_of_without State.wptr hkept rfl] at hwptr
  rw [hcount, hfill] at hfill'
  refine ⟨copyBytes d s.loc.length u, rfl, by rw [hcopy, hlen], by rwa [hcopy], by rwa [hcopy],
    copyBytes_windowOk d _ hwindow', hwptr, hfill', hcnt, (eq_of_without State.streamBits hstay rfl).trans hstream, ?_,
    (eq_of_without State.bitpos hstay rfl).trans hpos, hsession.trans hsession', hblock.trans hblock',
    hlengths.trans hlengths', hcodes.trans hcodes', htrees.trans htrees', hcmds'.trans hcmds,
    hresp'.trans (eq_of_without State.resp hkept rfl)⟩
  rw [eq_of_without State.readerOk hstay rfl]
  exact hok

end Sys2Proof.Machine
end

section
/-! SUPPORT. The sequence of code lengths: what one length and a run of them write, and the rows of the code-length
symbols (R218 to R223). -/

namespace Sys2Proof.Machine

/-! ### One length and a run (R116, R218) -/

/-- A write to an array of lengths, at each of its indices. -/
theorem lenAt_setLen {s : State} {k : Sel} {i m : Nat} {v : BitVec 4} (hm : m < Config.asize k)
    (hv : v.toNat ≤ Config.lmax k) : (s.setLen k i v).lenAt k m = if m = i then v else s.lenAt k m := by
  split
  case isTrue he =>
    subst he
    exact lenAt_setLen_same s k m v hm hv
  case isFalse hne => exact lenAt_setLen_other s k k i m v (.inr hne)

theorem putLength_loc (v : BitVec 4) (s : State) : (putLength v s).loc = { s.loc with k := s.loc.k + 1 } := by
  simp only [putLength]
  split <;> rfl

/-- One length goes to LEN[LL] below numLL. -/
theorem putLength_lenAt_ll (v : BitVec 4) (s : State) {m : Nat} (hm : m < 288) :
    (putLength v s).lenAt .ll m = if m < s.loc.numLL ∧ m = s.loc.k then v else s.lenAt .ll m := by
  have hv : v.toNat ≤ Config.lmax .ll := Nat.le_of_lt_succ v.isLt
  simp only [putLength]
  split
  case isTrue hlow =>
    rw [setLoc_lenAt, lenAt_setLen hm hv]
    exact if_congr (by omega) rfl rfl
  case isFalse hhigh =>
    rw [setLoc_lenAt, lenAt_setLen_other _ _ _ _ _ _ (.inl (by decide)), if_neg (by omega)]

/-- One length goes to LEN[DIST] from numLL on. -/
theorem putLength_lenAt_dist (v : BitVec 4) (s : State) {m : Nat} (hm : m < 32) :
    (putLength v s).lenAt .dist m = if s.loc.numLL + m = s.loc.k then v else s.lenAt .dist m := by
  have hv : v.toNat ≤ Config.lmax .dist := Nat.le_of_lt_succ v.isLt
  simp only [putLength]
  split
  case isTrue hlow =>
    rw [setLoc_lenAt, lenAt_setLen_other _ _ _ _ _ _ (.inl (by decide)), if_neg (by omega)]
  case isFalse hhigh =>
    rw [setLoc_lenAt, lenAt_setLen hm hv]
    exact if_congr (by omega) rfl rfl

theorem putLengths_loc (v : BitVec 4) (n : Nat) (s : State) :
    (putLengths v n s).loc = { s.loc with k := s.loc.k + n } := by
  induction n generalizing s with
  | zero => rfl
  | succ n ih =>
    rw [putLengths, ih, putLength_loc]
    simp only [Nat.add_assoc, Nat.add_comm 1 n]

theorem putLengths_lenAt_ll (v : BitVec 4) (n : Nat) (s : State) {m : Nat} (hm : m < 288) :
    (putLengths v n s).lenAt .ll m =
      if m < s.loc.numLL ∧ s.loc.k ≤ m ∧ m < s.loc.k + n then v else s.lenAt .ll m := by
  induction n generalizing s with
  | zero => exact (if_neg (by omega)).symm
  | succ n ih =>
    rw [putLengths, ih, putLength_loc, putLength_lenAt_ll v s hm]
    dsimp only
    by_cases hfirst : m < s.loc.numLL ∧ m = s.loc.k
    · rw [if_neg (by omega), if_pos hfirst, if_pos (by omega)]
    · rw [if_neg hfirst]
      exact if_congr (by omega) rfl rfl

theorem putLengths_lenAt_dist (v : BitVec 4) (n : Nat) (s : State) {m : Nat} (hm : m < 32) :
    (putLengths v n s).lenAt .dist m =
      if s.loc.k ≤ s.loc.numLL + m ∧ s.loc.numLL + m < s.loc.k + n then v else s.lenAt .dist m := by
  induction n generalizing s with
  | zero => exact (if_neg (by omega)).symm
  | succ n ih =>
    rw [putLengths, ih, putLength_loc, putLength_lenAt_dist v s hm]
    dsimp only
    by_cases hfirst : s.loc.numLL + m = s.loc.k
    · rw [if_neg (by omega), if_pos hfirst, if_pos (by omega)]
    · rw [if_neg hfirst]
      exact if_congr (by omega) rfl rfl

/-! ### The rows (R219 to R223) -/

theorem clSymbol_of_length {v : BitVec 9} (hv : v.toNat ≤ 15) (s : State) :
    clSymbol v.toNat s = lengthValue (v.setWidth 4) s := by
  rw [clSymbol, if_pos hv, BitVec.ofNat_toNat]

/-- Settles O34: the row is one Put, to the array that k is in. -/
theorem lengthSymbolPutsItself : Obligations.LengthSymbolPutsItself := by
  unfold Obligations.LengthSymbolPutsItself
  intro s i v hi hv
  rw [exec_of_encode_symbol hi]
  refine (congrArg finishSymbol (clSymbol_of_length hv s)).trans ?_
  by_cases hlow : s.loc.k < s.loc.numLL
  · simp only [lengthValue, putLength, if_pos hlow]
    rfl
  · simp only [lengthValue, putLength, if_neg hlow]
    rfl

/-- What a run of lengths leaves as it is, part by part. -/
theorem same_of_withoutSequence {s t : State} (h : t.withoutSequence = s.withoutSequence) :
    SameSession s t ∧ SameReader s t ∧ t.lenCL = s.lenCL ∧ SameCodes s t ∧ SameTrees s t ∧ SameWindow s t :=
  ⟨sameSession_of_outsideBlock (eq_of_without State.outsideBlock h rfl),
    ⟨eq_of_without State.brAcc h rfl, eq_of_without State.brCnt h rfl, eq_of_without State.bitpos h rfl,
      eq_of_without State.input h rfl⟩,
    eq_of_without State.lenCL h rfl,
    ⟨eq_of_without State.codeCL h rfl, eq_of_without State.codeLL h rfl, eq_of_without State.codeDIST h rfl⟩,
    ⟨eq_of_without State.treeCL h rfl, eq_of_without State.treeLL h rfl, eq_of_without State.treeDIST h rfl⟩,
    ⟨fun i => eq_of_without (fun u => Memory.read u.win i) h rfl, eq_of_without State.wptr h rfl,
      eq_of_without State.wfill h rfl, eq_of_without State.outcnt h rfl, eq_of_without State.output h rfl⟩⟩

theorem repeatLast_of_fits {n : Nat} {s : State} (h : s.loc.k + n ≤ s.loc.numLL + s.loc.numDist) :
    repeatLast n s = .ok () (putLengths s.loc.lastLength n s) :=
  if_neg (Nat.not_lt.mpr h)

theorem repeatLast_of_overrun {n : Nat} {s : State} (h : s.loc.numLL + s.loc.numDist < s.loc.k + n) :
    repeatLast n s = .err .codeLengthOverrun s :=
  if_pos h

/-- Each of the three repeat symbols reads its extra bits, and then repeats what lastLength now is (R220 to R222). -/
theorem clSymbol_of_repeat {s : State} {i e base : Nat} {v : BitVec 4}
    (h : (i = 16 ∧ e = 2 ∧ base = 3 ∧ v = s.loc.lastLength) ∨ (i = 17 ∧ e = 3 ∧ base = 3 ∧ v = 0) ∨
      (i = 18 ∧ e = 7 ∧ base = 11 ∧ v = 0)) :
    e ≤ 32 ∧ i < 512 ∧ 0 < base ∧ ∃ f, (∀ u, clSymbol i u = (readBits e false u).bind f) ∧
      ∀ x u, u.loc = s.loc → f x u = repeatLast (base + x) (setLastLength v u) := by
  rcases h with ⟨rfl, rfl, rfl, rfl⟩ | ⟨rfl, rfl, rfl, rfl⟩ | ⟨rfl, rfl, rfl, rfl⟩
  · exact ⟨by decide, by decide, by decide, fun x u => repeatLast (3 + x) u, fun _ => rfl,
      fun x u hu => by rw [← hu]; rfl⟩
  · exact ⟨by decide, by decide, by decide, _, fun _ => rfl, fun _ _ _ => rfl⟩
  · exact ⟨by decide, by decide, by decide, _, fun _ => rfl, fun _ _ _ => rfl⟩

/-- So does each of the three rows. -/
theorem exec_repeat_row {s : State} {i : Instr} {e base : Nat} {v last : BitVec 4}
    (h : (i = .clRep16 ∧ e = 2 ∧ base = 3 ∧ v = s.loc.lastLength ∧ last = s.loc.lastLength) ∨
      (i = .clRep17 ∧ e = 3 ∧ base = 3 ∧ v = 0 ∧ last = 0) ∨
      (i = .clRep18 ∧ e = 7 ∧ base = 11 ∧ v = 0 ∧ last = 0)) :
    e ≤ 32 ∧ v = last ∧ ∃ f, exec i s = finishSymbol ((readBits e false s).bind f) ∧
      ∀ x u, u.loc = s.loc → f x u = repeatLast (base + x) (setLastLength last u) := by
  rcases h with ⟨rfl, rfl, rfl, rfl, rfl⟩ | ⟨rfl, rfl, rfl, rfl, rfl⟩ | ⟨rfl, rfl, rfl, rfl, rfl⟩
  · obtain ⟨he, -, -, f, hf, hrep⟩ := clSymbol_of_repeat (s := s) (.inl ⟨rfl, rfl, rfl, rfl⟩)
    exact ⟨he, rfl, f, congrArg finishSymbol (hf s), hrep⟩
  · obtain ⟨he, -, -, f, hf, hrep⟩ := clSymbol_of_repeat (s := s) (.inr (.inl ⟨rfl, rfl, rfl, rfl⟩))
    exact ⟨he, rfl, f, congrArg finishSymbol (hf s), hrep⟩
  · obtain ⟨he, -, -, f, hf, hrep⟩ := clSymbol_of_repeat (s := s) (.inr (.inr ⟨rfl, rfl, rfl, rfl⟩))
    exact ⟨he, rfl, f, congrArg finishSymbol (hf s), hrep⟩

/-- Settles O35: after its extra bits a row is a run of lengths, or raises the overrun before it. -/
theorem repeatSymbolsPutRuns : Obligations.RepeatSymbolsPutRuns := by
  unfold Obligations.RepeatSymbolsPutRuns
  intro s i e base v last hr hrow
  obtain ⟨he, rfl, f, hexec, hf⟩ := exec_repeat_row hrow
  rw [hexec]
  have hnext : e ≤ s.bitsLeft → ∃ u, finishSymbol ((readBits e false s).bind f) =
      finishSymbol (repeatLast (base + bitsValue (s.streamBits.take e)) (setLastLength v u)) ∧ u.loc = s.loc ∧
      u.readerOk ∧ u.streamBits = s.streamBits.drop e ∧ u.bitpos = s.bitpos + BitVec.ofNat 64 e ∧
      u.withoutReader = s.withoutReader := fun hleft => by
    obtain ⟨u, hread, hok, hstream, hpos, hkept⟩ := readBits_next he hr hleft
    have hloc : u.loc = s.loc := eq_of_without State.loc hkept rfl
    exact ⟨u, by rw [hread, Res.bind_ok, hf _ _ hloc], hloc, hok, hstream, hpos, hkept⟩
  refine ⟨fun hleft hfits => ?_, fun hleft hover => ?_, fun hshort => finishSymbol_of_short he hr hshort f⟩
  · obtain ⟨u, hfinish, hloc, hok, hstream, hpos, hkept⟩ := hnext hleft
    rw [hfinish]
    generalize base + bitsValue (s.streamBits.take e) = n at hfits ⊢
    have hloc' : (setLastLength v u).loc = { s.loc with lastLength := v } := by rw [← hloc]; rfl
    have hlens : ∀ k m, (setLastLength v u).lenAt k m = s.lenAt k m := fun k m =>
      (eq_of_without (fun w => w.lenAt k m) hkept rfl :)
    have hstay : (putLengths v n (setLastLength v u)).withoutSequence = u.withoutSequence :=
      putLengths_withoutSequence v n (setLastLength v u)
    obtain ⟨hsession, -, hcl, hcodes, htrees, hwindow⟩ := same_of_withoutSequence hstay
    obtain ⟨hsession', -, hlengths', hcodes', htrees', hwindow', hcmds'⟩ := sameOutsideReader_of_withoutReader hkept
    rw [repeatLast_of_fits (by rw [hloc']; exact hfits)]
    refine ⟨putLengths v n (setLastLength v u), rfl, fun m hm => ?_, fun m hm => ?_, hcl.trans hlengths'.1, ?_,
      (eq_of_without State.streamBits hstay rfl).trans hstream, ?_, (eq_of_without State.bitpos hstay rfl).trans hpos,
      (eq_of_without State.blkcnt hstay rfl).trans (eq_of_without State.blkcnt hkept rfl),
      (eq_of_without State.bhdr hstay rfl).trans (eq_of_without State.bhdr hkept rfl),
      (eq_of_without State.phase hstay rfl).trans (eq_of_without State.phase hkept rfl),
      (eq_of_without State.staged hstay rfl).trans (eq_of_without State.staged hkept rfl), hsession'.trans hsession,
      hcodes'.trans hcodes, htrees'.trans htrees, hwindow'.trans hwindow,
      (eq_of_without State.cmds hstay rfl).trans hcmds',
      (eq_of_without State.resp hstay rfl).trans (eq_of_without State.resp hkept rfl)⟩
    · rw [putLengths_lenAt_ll _ _ _ hm, hloc', hlens]
    · rw [putLengths_lenAt_dist _ _ _ hm, hloc', hlens]
    · rw [putLengths_loc, hloc']
    · rw [eq_of_without State.readerOk hstay rfl]
      exact hok
  · obtain ⟨u, hfinish, hloc, hok, hstream, hpos, hkept⟩ := hnext hleft
    rw [hfinish, repeatLast_of_overrun (by show u.loc.numLL + u.loc.numDist < u.loc.k + _; rwa [hloc])]
    refine ⟨setLastLength v u, _, rfl, hstream, hpos, ?_,
      blockError_errorLatched_of_phase (u := setLastLength v u) (eq_of_without State.phase hkept rfl :)⟩
    rw [← hloc]
    exact sameOutsideReader_of_withoutReader hkept

end Sys2Proof.Machine
end

section
/-! SUPPORT. The header of a block: the fields of BHDR, the bits a piece consumes, and what ReadBlockHeader and the
counts of block type 2 read (R213 to R215). -/

namespace Sys2Proof.Machine

/-! ### The fields of BHDR (R34) -/

/-- A field written to BHDR, bit by bit. -/
theorem setBhdr_getLsbD (s : State) {lo n v i : Nat} (hlo : lo + n ≤ 17) (hv : v < 2 ^ n) :
    (s.setBhdr lo n v).bhdr.getLsbD i =
      if lo ≤ i ∧ i < lo + n then v.testBit (i - lo) else s.bhdr.getLsbD i := by
  have hmask : (2 ^ n - 1).testBit (i - lo) = decide (i - lo < n) := Nat.testBit_two_pow_sub_one n _
  show ((s.bhdr &&& ~~~(BitVec.ofNat 17 (2 ^ n - 1) <<< lo)) ||| (BitVec.ofNat 17 v <<< lo)).getLsbD i = _
  simp only [BitVec.getLsbD_or, BitVec.getLsbD_and, BitVec.getLsbD_not, BitVec.getLsbD_shiftLeft, BitVec.getLsbD_ofNat,
    hmask]
  by_cases hi : i < 17
  · by_cases hge : lo ≤ i
    · by_cases hlt : i < lo + n
      · have h1 : i - lo < n := by omega
        have h2 : i - lo < 17 := by omega
        simp [hi, hge, hlt, h1, h2, Nat.not_lt.mpr hge]
      · have h1 : ¬ i - lo < n := by omega
        have hzero : v.testBit (i - lo) = false :=
          Nat.testBit_lt_two_pow (Nat.lt_of_lt_of_le hv (Nat.pow_le_pow_right (by decide) (by omega)))
        simp [hi, hlt, h1, hzero]
    · simp [hi, hge, Nat.not_le.mp hge]
  · have hbhdr : s.bhdr.getLsbD i = false := BitVec.getLsbD_of_ge _ _ (by omega)
    rw [if_neg (by omega)]
    simp [hi, hbhdr]

/-- A field reads as the value just written to it. -/
theorem setBhdr_field_same (s : State) {lo n v : Nat} (hlo : lo + n ≤ 17) (hv : v < 2 ^ n) :
    ((s.setBhdr lo n v).bhdr.extractLsb' lo n).toNat = v := by
  have hfield : (s.setBhdr lo n v).bhdr.extractLsb' lo n = BitVec.ofNat n v := by
    refine BitVec.eq_of_getLsbD_eq fun i hi => ?_
    rw [BitVec.getLsbD_extractLsb', setBhdr_getLsbD s hlo hv, BitVec.getLsbD_ofNat, if_pos (by omega),
      Nat.add_sub_cancel_left]
  rw [hfield, BitVec.toNat_ofNat, Nat.mod_eq_of_lt hv]

/-- And bits apart from it stay. -/
theorem setBhdr_field_other (s : State) {lo n v lo' n' : Nat} (hlo : lo + n ≤ 17) (hv : v < 2 ^ n)
    (hapart : lo' + n' ≤ lo ∨ lo + n ≤ lo') :
    (s.setBhdr lo n v).bhdr.extractLsb' lo' n' = s.bhdr.extractLsb' lo' n' := by
  refine BitVec.eq_of_getLsbD_eq fun i hi => ?_
  rw [BitVec.getLsbD_extractLsb', BitVec.getLsbD_extractLsb', setBhdr_getLsbD s hlo hv, if_neg (by omega)]

/-! ### The bits a piece consumes -/

/-- From `s` to `t` exactly these bits were consumed. -/
def Consumed (s : State) (bits : List Bool) (t : State) : Prop :=
  s.streamBits = bits ++ t.streamBits ∧ t.readerOk ∧ t.bitpos = s.bitpos + BitVec.ofNat 64 bits.length

theorem Consumed.trans {s t u : State} {bits more : List Bool} (h : Consumed s bits t) (h' : Consumed t more u) :
    Consumed s (bits ++ more) u := by
  obtain ⟨hstream, -, hpos⟩ := h
  obtain ⟨hstream', hok, hpos'⟩ := h'
  exact ⟨by rw [hstream, hstream', List.append_assoc], hok,
    by rw [hpos', hpos, BitVec.add_assoc, ← BitVec.ofNat_add, List.length_append]⟩

theorem Consumed.readerOk {s t : State} {bits : List Bool} (h : Consumed s bits t) : t.readerOk := h.2.1

theorem Consumed.bitpos_eq {s t : State} {bits : List Bool} (h : Consumed s bits t) :
    t.bitpos = s.bitpos + BitVec.ofNat 64 bits.length := h.2.2

/-- What the stream holds after them is left. -/
theorem Consumed.streamBits_eq {s t : State} {bits rest : List Bool} (h : Consumed s bits t)
    (hs : s.streamBits = bits ++ rest) : t.streamBits = rest :=
  List.append_cancel_left (h.1.symm.trans hs)

theorem consumed_nil {s : State} (hr : s.readerOk) : Consumed s [] s := ⟨rfl, hr, by simp⟩

/-- A read of as many bits as a list at the front of the stream has answers its number. -/
theorem readBits_consumed {n : Nat} (hn : n ≤ 32) {s : State} (hr : s.readerOk) {bits rest : List Bool}
    (hs : s.streamBits = bits ++ rest) (hlen : bits.length = n) :
    ∃ t, readBits n false s = .ok (bitsValue bits) t ∧ Consumed s bits t ∧ t.streamBits = rest ∧
      t.withoutReader = s.withoutReader := by
  have hleft : n ≤ s.bitsLeft := by
    rw [← streamBits_length, hs, List.length_append]
    omega
  obtain ⟨t, hread, hok, hstream, hpos, hkept⟩ := readBits_next hn hr hleft
  have htake : s.streamBits.take n = bits := by rw [hs, ← hlen, List.take_left]
  have hrest : t.streamBits = rest := by rw [hstream, hs, ← hlen, List.drop_left]
  rw [htake] at hread
  exact ⟨t, hread, ⟨by rw [hs, hrest], hok, by rw [hpos, hlen]⟩, hrest, hkept⟩

/-! ### ReadBlockHeader and the counts (R213, R215) -/

/-- What the reading of a block's header leaves as it is. -/
def State.outsideHeader (s : State) : State :=
  { s with
    brAcc := 0, brCnt := 0, bitpos := 0, input := []
    bhdr := 0, phase := .readBlockHeader, loc := Locals.idle }

/-- The same, part by part. -/
theorem same_of_outsideHeader {s t : State} (h : t.outsideHeader = s.outsideHeader) :
    SameSession s t ∧ SameLengths s t ∧ SameCodes s t ∧ SameTrees s t ∧ SameWindow s t ∧ t.cmds = s.cmds :=
  ⟨sameSession_of_outsideBlock (eq_of_without State.outsideBlock h rfl),
    ⟨eq_of_without State.lenCL h rfl, eq_of_without State.lenLL h rfl, eq_of_without State.lenDIST h rfl⟩,
    ⟨eq_of_without State.codeCL h rfl, eq_of_without State.codeLL h rfl, eq_of_without State.codeDIST h rfl⟩,
    ⟨eq_of_without State.treeCL h rfl, eq_of_without State.treeLL h rfl, eq_of_without State.treeDIST h rfl⟩,
    ⟨fun i => eq_of_without (fun u => Memory.read u.win i) h rfl, eq_of_without State.wptr h rfl,
      eq_of_without State.wfill h rfl, eq_of_without State.outcnt h rfl, eq_of_without State.output h rfl⟩,
    eq_of_without State.cmds h rfl⟩

/-- BHDR after a write of one of its fields is a function of BHDR before it. -/
theorem setBhdr_bhdr_congr {s t : State} (h : t.bhdr = s.bhdr) (lo n v : Nat) :
    (t.setBhdr lo n v).bhdr = (s.setBhdr lo n v).bhdr := by
  simp only [State.setBhdr, h]

/-- ReadBlockHeader consumes three bits: BFINAL, and BTYPE as its value. -/
theorem readHeader_consumed {s : State} (hr : s.readerOk) {bfinal b0 b1 : Bool} {rest : List Bool}
    (hs : s.streamBits = bfinal :: b0 :: b1 :: rest) :
    ∃ t, readHeader s = .ok (bitsValue [b0, b1]) t ∧ Consumed s [bfinal, b0, b1] t ∧ t.streamBits = rest ∧
      t.bhdr = ((s.setBhdr 0 1 bfinal.toNat).setBhdr 1 2 (bitsValue [b0, b1])).bhdr ∧
      t.phase = .readBlockHeader ∧ t.loc = Locals.idle ∧ t.outsideHeader = s.outsideHeader := by
  have hfinal : bitsValue [bfinal] = bfinal.toNat := rfl
  obtain ⟨u, hread, hcons, hrest, hkept⟩ := readBits_consumed (s := (s.setLoc Locals.idle).setPhase .readBlockHeader)
    (bits := [bfinal]) (n := 1) (by decide) hr hs rfl
  obtain ⟨t, hread', hcons', hrest', hkept'⟩ := readBits_consumed (s := u.setBhdr 0 1 bfinal.toNat)
    (bits := [b0, b1]) (n := 2) (by decide) hcons.readerOk hrest rfl
  rw [hfinal] at hread
  refine ⟨t.setBhdr 1 2 (bitsValue [b0, b1]), ?_, hcons.trans hcons', hrest', ?_,
    (eq_of_without State.phase hkept' rfl).trans (eq_of_without State.phase hkept rfl :),
    (eq_of_without State.loc hkept' rfl).trans (eq_of_without State.loc hkept rfl :),
    (eq_of_without State.outsideHeader hkept' rfl).trans (eq_of_without State.outsideHeader hkept rfl :)⟩
  · rw [readHeader, hread, Res.bind_ok, hread', Res.bind_ok]
  · exact setBhdr_bhdr_congr ((eq_of_without State.bhdr hkept' rfl).trans
      (setBhdr_bhdr_congr (eq_of_without State.bhdr hkept rfl :) 0 1 _)) 1 2 _

/-- Block type 2 consumes fourteen bits: the three counts. -/
theorem readCounts_consumed {s : State} (hr : s.readerOk) {b1 b2 b3 rest : List Bool}
    (hs : s.streamBits = b1 ++ (b2 ++ (b3 ++ rest))) (h1 : b1.length = 5) (h2 : b2.length = 5) (h3 : b3.length = 4) :
    ∃ t, readCounts s = .ok () t ∧ Consumed s (b1 ++ b2 ++ b3) t ∧ t.streamBits = rest ∧
      t.bhdr = (((s.setBhdr 3 5 (bitsValue b1)).setBhdr 8 5 (bitsValue b2)).setBhdr 13 4 (bitsValue b3)).bhdr ∧
      t.phase = .readCodeLengthAlphabet ∧
      t.loc = { s.loc with
        numLL := bitsValue b1 + 257, numDist := bitsValue b2 + 1, numCL := bitsValue b3 + 4 } ∧
      t.outsideHeader = s.outsideHeader := by
  obtain ⟨u, hread, hcons, hrest, hkept⟩ :=
    readBits_consumed (s := s.setPhase .readCodeLengthAlphabet) (by decide) hr hs h1
  obtain ⟨v, hread', hcons', hrest', hkept'⟩ :=
    readBits_consumed (s := u.setBhdr 3 5 (bitsValue b1)) (by decide) hcons.readerOk hrest h2
  obtain ⟨t, hread'', hcons'', hrest'', hkept''⟩ :=
    readBits_consumed (s := v.setBhdr 8 5 (bitsValue b2)) (by decide) hcons'.readerOk hrest' h3
  have hbhdr : v.bhdr = (s.setBhdr 3 5 (bitsValue b1)).bhdr :=
    (eq_of_without State.bhdr hkept' rfl).trans (setBhdr_bhdr_congr (eq_of_without State.bhdr hkept rfl :) 3 5 _)
  have hbhdr' : t.bhdr = ((s.setBhdr 3 5 (bitsValue b1)).setBhdr 8 5 (bitsValue b2)).bhdr :=
    (eq_of_without State.bhdr hkept'' rfl).trans (setBhdr_bhdr_congr hbhdr 8 5 _)
  have hloc : t.loc = s.loc := (eq_of_without State.loc hkept'' rfl).trans
    ((eq_of_without State.loc hkept' rfl).trans (eq_of_without State.loc hkept rfl :) :)
  refine ⟨(t.setBhdr 13 4 (bitsValue b3)).setLoc { t.loc with
      numLL := bitsValue b1 + 257, numDist := bitsValue b2 + 1, numCL := bitsValue b3 + 4 },
    ?_, (hcons.trans hcons').trans hcons'', hrest'', setBhdr_bhdr_congr hbhdr' 13 4 _,
    (eq_of_without State.phase hkept'' rfl).trans ((eq_of_without State.phase hkept' rfl).trans
      (eq_of_without State.phase hkept rfl :) :),
    by rw [hloc]; rfl,
    (eq_of_without State.outsideHeader hkept'' rfl).trans ((eq_of_without State.outsideHeader hkept' rfl).trans
      (eq_of_without State.outsideHeader hkept rfl :) :)⟩
  rw [readCounts, hread, Res.bind_ok, hread', Res.bind_ok, hread'']
  rfl

/-- Two bits are BFINAL's and BTYPE's fields. -/
theorem header_fields (s : State) (bfinal b0 b1 : Bool) :
    ((((s.setBhdr 0 1 bfinal.toNat).setBhdr 1 2 (bitsValue [b0, b1])).bhdr.extractLsb' 0 3).toNat =
      bitsValue [bfinal, b0, b1]) ∧
    ((s.setBhdr 0 1 bfinal.toNat).setBhdr 1 2 (bitsValue [b0, b1])).bhdr.extractLsb' 3 14 =
      s.bhdr.extractLsb' 3 14 := by
  have hfinal : bfinal.toNat < 2 ^ 1 := by have := bfinal.toNat_le; omega
  have htype : bitsValue [b0, b1] < 2 ^ 2 := bitsValue_lt [b0, b1]
  have h0 := setBhdr_field_same s (lo := 0) (by decide) hfinal
  have h1 := setBhdr_field_same (s.setBhdr 0 1 bfinal.toNat) (lo := 1) (by decide) htype
  have h0' := setBhdr_field_other (s.setBhdr 0 1 bfinal.toNat) (lo := 1) (lo' := 0) (n' := 1) (by decide) htype
    (.inl (by decide))
  constructor
  · rw [← h0'] at h0
    generalize ((s.setBhdr 0 1 bfinal.toNat).setBhdr 1 2 (bitsValue [b0, b1])).bhdr = x at h0 h1
    simp only [BitVec.extractLsb'_toNat, Nat.shiftRight_eq_div_pow] at h0 h1 ⊢
    rw [bitsValue]
    omega
  · rw [setBhdr_field_other _ (by decide) htype (.inr (by decide)),
      setBhdr_field_other _ (by decide) hfinal (.inr (by decide))]

/-- Settles O32: DBLK reads the three header bits and rejects the block there; a rejected row raises in the state as it
is. -/
theorem blockTypeRejected : Obligations.BlockTypeRejected := by
  unfold Obligations.BlockTypeRejected
  refine ⟨fun s bfinal b0 b1 rest hready hr hs htype => ?_, fun s i hi => ?_⟩
  · obtain ⟨t, hheader, hcons, hrest, hbhdr, hphase, -, hkept⟩ := readHeader_consumed hr hs
    obtain ⟨-, hlengths, hcodes, htrees, hwindow, hcmds⟩ := same_of_outsideHeader hkept
    obtain ⟨hlow, hhigh⟩ := header_fields s bfinal b0 b1
    have hblock : decodeBlock s = .err .unsupportedBlockType t := by
      rw [decodeBlock, hheader, Res.bind_ok, blockType, if_neg htype]
      rfl
    have hcount : t.blkcnt = s.blkcnt := eq_of_without State.blkcnt hkept rfl
    rw [exec_dblk_of_ready hready, hblock]
    exact ⟨blockError .unsupportedBlockType t, rfl, rfl, rfl, rfl, by rw [blockError_errPhase, hphase]; rfl, hcount,
      hcons.bitpos_eq, hcons.bitpos_eq, hrest, hcount, by rw [blockError_bhdr, hbhdr, hlow],
      by rw [blockError_bhdr, hbhdr, hhigh], hlengths, hcodes, htrees, hwindow, hcmds⟩
  · refine ⟨blockError .unsupportedBlockType s, ?_, blockError_errorLatched _ _⟩
    rcases hi with rfl | rfl | rfl <;> rfl

/-- A sequence raises where its first piece does, or where its second does from there. -/
theorem Res.bind_eq_err {α β : Type} {r : Res α} {f : α → State → Res β} {e : Status} {t : State}
    (h : r.bind f = .err e t) : r = .err e t ∨ ∃ a s, r = .ok a s ∧ f a s = .err e t := by
  cases r with
  | ok a s => exact .inr ⟨a, s, rfl, h⟩
  | err e' s => exact .inl (by cases h; rfl)
  | stuck => cases h

/-- What the reading of the counts raises is the end of the input, in phase 1 (R143, R215). -/
theorem readCounts_err {s t : State} {e : Status} (h : readCounts s = .err e t) :
    e = .unexpectedEndOfInput ∧ t.phase = .readCodeLengthAlphabet := by
  have hread : ∀ {n : Nat} {u v : State}, u.phase = .readCodeLengthAlphabet → readBits n false u = .err e v →
      e = .unexpectedEndOfInput ∧ v.phase = .readCodeLengthAlphabet := fun {n u v} hu hv => by
    have hends := readBits_ends n u
    rw [hv] at hends
    exact ⟨readBits_eq_err hv, (eq_of_without State.phase hends.2 rfl).trans hu⟩
  have hstay : ∀ {n x : Nat} {u v : State}, u.phase = .readCodeLengthAlphabet → readBits n false u = .ok x v →
      v.phase = .readCodeLengthAlphabet := fun hu hv =>
    (eq_of_without State.phase ((readBits_ends _ _).of_ok hv) rfl).trans hu
  rcases Res.bind_eq_err h with h | ⟨hlit, s1, h1, h⟩
  · exact hread rfl h
  have hp1 := hstay rfl h1
  rcases Res.bind_eq_err h with h | ⟨hdist, s2, h2, h⟩
  · exact hread (u := s1.setBhdr 3 5 hlit) hp1 h
  have hp2 := hstay (u := s1.setBhdr 3 5 hlit) hp1 h2
  rcases Res.bind_eq_err h with h | ⟨hclen, s3, h3, h⟩
  · exact hread (u := s2.setBhdr 8 5 hdist) hp2 h
  · cases h

/-- The counts need their fourteen bits. -/
theorem readCounts_ok_bitsLeft {s t : State} (h : readCounts s = .ok () t) : t.bitsLeft + 14 = s.bitsLeft := by
  obtain ⟨hlit, s1, h1, h⟩ := Res.bind_eq_ok h
  obtain ⟨hdist, s2, h2, h⟩ := Res.bind_eq_ok h
  obtain ⟨hclen, s3, h3, h⟩ := Res.bind_eq_ok h
  cases h
  have hleft1 := readBits_ok_bitsLeft (by decide) h1
  have hleft2 := readBits_ok_bitsLeft (by decide) h2
  have hleft3 := readBits_ok_bitsLeft (by decide) h3
  simp only [setPhase_bitsLeft, setBhdr_bitsLeft] at hleft1 hleft2 hleft3
  show s3.bitsLeft + 14 = s.bitsLeft
  omega

/-- Settles O33: three reads, each written to its field of BHDR; one of them runs short when fewer bits are left. -/
theorem dynamicHeaderReadsCounts : Obligations.DynamicHeaderReadsCounts := by
  unfold Obligations.DynamicHeaderReadsCounts
  refine fun s hr => ⟨fun hleft => ?_, fun hshort => ?_⟩
  · have hlen : s.streamBits.length = s.bitsLeft := streamBits_length s
    have hs : s.streamBits = s.streamBits.take 5 ++ ((s.streamBits.drop 5).take 5 ++
        ((s.streamBits.drop 10).take 4 ++ s.streamBits.drop 14)) := by
      have h10 : s.streamBits.drop 10 = (s.streamBits.drop 5).drop 5 := by rw [List.drop_drop]
      have h14 : s.streamBits.drop 14 = (s.streamBits.drop 10).drop 4 := by rw [List.drop_drop]
      rw [h14, List.take_append_drop, h10, List.take_append_drop, List.take_append_drop]
    have h1 : (s.streamBits.take 5).length = 5 := by rw [List.length_take]; omega
    have h2 : ((s.streamBits.drop 5).take 5).length = 5 := by rw [List.length_take, List.length_drop]; omega
    have h3 : ((s.streamBits.drop 10).take 4).length = 4 := by rw [List.length_take, List.length_drop]; omega
    obtain ⟨t, hcounts, hcons, hrest, hbhdr, hphase, hloc, hkept⟩ := readCounts_consumed hr hs h1 h2 h3
    obtain ⟨hsession, hlengths, hcodes, htrees, hwindow, hcmds⟩ := same_of_outsideHeader hkept
    have hexec : exec .blockDynamic s = .next t := congrArg finishSymbol hcounts
    have hv1 := bitsValue_take_lt s.streamBits 5
    have hv2 := bitsValue_take_lt (s.streamBits.drop 5) 5
    have hv3 := bitsValue_take_lt (s.streamBits.drop 10) 4
    generalize bitsValue (s.streamBits.take 5) = v1 at *
    generalize bitsValue ((s.streamBits.drop 5).take 5) = v2 at *
    generalize bitsValue ((s.streamBits.drop 10).take 4) = v3 at *
    refine ⟨t, hexec, ?_, ?_, ?_, ?_, hloc, by rw [hphase]; rfl, hrest, hcons.readerOk, ?_,
      eq_of_without State.blkcnt hkept rfl, eq_of_without State.staged hkept rfl, hsession, hlengths, hcodes, htrees,
      hwindow, hcmds, eq_of_without State.resp hkept rfl⟩
    · rw [hbhdr, setBhdr_field_other _ (by decide) hv3 (.inl (by decide)),
        setBhdr_field_other _ (by decide) hv2 (.inl (by decide)), setBhdr_field_same _ (by decide) hv1]
    · rw [hbhdr, setBhdr_field_other _ (by decide) hv3 (.inl (by decide)), setBhdr_field_same _ (by decide) hv2]
    · rw [hbhdr, setBhdr_field_same _ (by decide) hv3]
    · rw [hbhdr, setBhdr_field_other _ (by decide) hv3 (.inl (by decide)),
        setBhdr_field_other _ (by decide) hv2 (.inl (by decide)),
        setBhdr_field_other _ (by decide) hv1 (.inl (by decide))]
    · rw [hcons.bitpos_eq, List.length_append, List.length_append, h1, h2, h3]
      rfl
  · cases hcounts : readCounts s with
    | ok _ t =>
      have hleft := readCounts_ok_bitsLeft hcounts
      omega
    | err e t =>
      obtain ⟨rfl, hphase⟩ := readCounts_err hcounts
      refine ⟨blockError .unexpectedEndOfInput t, congrArg finishSymbol hcounts, rfl, rfl, ?_, rfl⟩
      rw [blockError_errPhase, hphase]
      rfl
    | stuck => exact absurd (readCounts_within s) (by rw [hcounts]; exact id)

end Sys2Proof.Machine
end

section
/-! SUPPORT. The alphabets of a block: the tree built of lengths that keep Kraft's inequality, and DecodeSymbol on a
canonical code (R165, R168, R187, R192). -/

namespace Sys2Proof.Machine

/-! ### Lengths and the zeros after them (R116) -/

theorem firstCode_append_zeros (lens : List Nat) (n l : Nat) :
    firstCode (lens ++ List.replicate n 0) l = firstCode lens l := by
  induction l with
  | zero => rfl
  | succ l ih =>
    rw [firstCode, firstCode, ih]
    split
    case isTrue => rfl
    case isFalse hne => rw [List.count_append, List.count_replicate, if_neg (by simpa using Ne.symm hne), Nat.add_zero]

theorem kraftSum_append_zeros (lens : List Nat) (n : Nat) : kraftSum (lens ++ List.replicate n 0) = kraftSum lens := by
  simp [kraftSum]

theorem getD_append_zeros (lens : List Nat) (n i : Nat) : (lens ++ List.replicate n 0).getD i 0 = lens.getD i 0 := by
  rcases Nat.lt_or_ge i lens.length with hi | hi
  · rw [List.getD_append _ _ _ _ hi]
  · rw [List.getD_append_right _ _ _ _ hi, List.getD_eq_default _ _ hi, List.getD_eq_getElem?_getD,
      List.getElem?_getD_replicate_default_eq]

theorem lt_length_of_getD_ne_zero {lens : List Nat} {i : Nat} (h : lens.getD i 0 ≠ 0) : i < lens.length := by
  by_contra hi
  exact h (List.getD_eq_default _ _ (Nat.not_lt.mp hi))

/-- The code of a symbol with a length is the same with zeros after the lengths. -/
theorem codeWord_append_zeros {lens : List Nat} (n : Nat) {i : Nat} (h : lens.getD i 0 ≠ 0) :
    codeWord (lens ++ List.replicate n 0) i = codeWord lens i := by
  have hi := lt_length_of_getD_ne_zero h
  rw [codeWord, codeWord, codeValue, codeValue, getD_append_zeros, firstCode_append_zeros,
    List.take_append_of_le_length (Nat.le_of_lt hi)]

/-- The array of an alphabet holds these lengths, and 0 from their end on. -/
def HasLengths (s : State) (k : Sel) (lens : List Nat) : Prop := ∀ i, (s.lenAt k i).toNat = lens.getD i 0

theorem HasLengths.lens_eq {s : State} {k : Sel} {lens : List Nat} (h : HasLengths s k lens)
    (hle : lens.length ≤ Config.asize k) : s.lens k = lens ++ List.replicate (Config.asize k - lens.length) 0 := by
  have hlen : (s.lens k).length = (lens ++ List.replicate (Config.asize k - lens.length) 0).length := by
    rw [lens_length, List.length_append, List.length_replicate, Nat.add_sub_cancel' hle]
  refine List.ext_getElem hlen fun i hi hi' => ?_
  rw [← List.getD_eq_getElem _ 0 hi, ← List.getD_eq_getElem _ 0 hi', lens_getD, h i, getD_append_zeros]

/-! ### The tree of lengths that keep Kraft's inequality (R168, R187) -/

/-- The tree of an alphabet decodes the canonical codes of these lengths, wherever its cursor is. -/
def DecodesLengths (s : State) (k : Sel) (lens : List Nat) : Prop :=
  (s.tree k).resetCursor.wf (Config.nodecap k) ∧
  ∀ i, lens.getD i 0 ≠ 0 → (s.tree k).resetCursor.codeOf (codeWord lens i) (BitVec.ofNat 9 i)

/-- Under Kraft's inequality none of the canonical codes of an alphabet fails. -/
theorem buildCodes_not_codeFails {s : State} {k : Sel} (h : kraftSum (s.lens k) ≤ 2 ^ 15) {i : Nat}
    (hi : i < Config.asize k) : ¬ (s.buildCodes k).codeFails k i := by
  have hword : ∀ j, j < Config.asize k → ((s.buildCodes k).codeAt k j).clen ≠ 0 →
      (s.lens k).getD j 0 ≠ 0 ∧ (s.buildCodes k).codeString k j = codeWord (s.lens k) j := fun j hj hne => by
    rw [buildCodes_clen s hj] at hne
    refine ⟨mt lens_getD_eq_zero_iff.mp hne, ?_⟩
    rw [State.codeString, buildCodes_clen s hj, buildCodes_cval hj hne, codeWord, lens_getD]
  have hfree : ∀ m j, m < Config.asize k → j < Config.asize k → m ≠ j →
      ((s.buildCodes k).codeAt k m).clen ≠ 0 → ((s.buildCodes k).codeAt k j).clen ≠ 0 →
      ¬ (s.buildCodes k).codeString k m <+: (s.buildCodes k).codeString k j := fun m j hm hj hmj hnem hnej => by
    obtain ⟨hlenm, hwordm⟩ := hword m hm hnem
    obtain ⟨hlenj, hwordj⟩ := hword j hj hnej
    rw [hwordm, hwordj]
    exact codeBits_codeValue_not_isPrefix (lens_le s k) h (by rwa [lens_length]) (by rwa [lens_length]) hmj hlenm hlenj
  rintro ⟨hne, hbig | ⟨j, hj, hnej, hbegins | hbegins⟩⟩
  · exact absurd ((buildCodes_too_large_iff s k).mp ⟨i, hi, hne, hbig⟩) (Nat.not_lt.mpr h)
  · exact hfree j i (by omega) hi (by omega) hnej hne hbegins
  · exact hfree i j hi (by omega) (by omega) hne hnej hbegins

/-- BuildTree makes the tree of such lengths. -/
theorem buildTree_of_lengths {s : State} {k : Sel} {lens : List Nat} (h : HasLengths s k lens)
    (hle : lens.length ≤ Config.asize k) (hkraft : kraftSum lens ≤ 2 ^ 15) :
    ∃ t, buildTree k (s.buildCodes k) = .ok () ((s.buildCodes k).setTree k t) ∧
      DecodesLengths ((s.buildCodes k).setTree k t) k lens := by
  have hlens := h.lens_eq hle
  have hok : ∀ i, i < Config.asize k → ¬ (s.buildCodes k).codeFails k i := fun i hi =>
    buildCodes_not_codeFails (by rwa [hlens, kraftSum_append_zeros]) hi
  obtain ⟨t, ht, hbuild⟩ := build_completes (buildCodes_clen_le s k) hok
  refine ⟨t, by rw [buildTree, hbuild], ?_⟩
  rw [DecodesLengths, setTree_tree_same]
  refine ⟨resetCursor_wf ht.wf, fun i hne => ?_⟩
  have hi : i < Config.asize k := Nat.lt_of_lt_of_le (lt_length_of_getD_ne_zero hne) hle
  have hne' : s.lenAt k i ≠ 0 := mt lens_getD_eq_zero_iff.mpr (by rwa [lens_getD, h i])
  have hcur : t.resetCursor = t := by rw [Tree.resetCursor, ← ht.cursor]
  rw [hcur]
  refine (ht.decodes _ _).mpr ⟨i, hi, by rwa [buildCodes_clen s hi], ?_, rfl⟩
  rw [State.codeString, buildCodes_clen s hi, buildCodes_cval hi hne', h i, hlens, ← codeWord_append_zeros _ hne,
    codeWord, getD_append_zeros]

/-! ### DecodeSymbol on a code (R192) -/

/-- DecodeSymbol answers the symbol of a code at the front of the stream. -/
theorem decodeSymbol_of_code {s : State} {k : Sel} {bits rest : List Bool} {sym : BitVec 9} (hr : s.readerOk)
    (hwf : (s.tree k).resetCursor.wf (Config.nodecap k)) (hcode : (s.tree k).resetCursor.codeOf bits sym)
    (hs : s.streamBits = bits ++ rest) :
    ∃ t, decodeSymbol k s = .ok sym t ∧ Consumed s bits t ∧ t.streamBits = rest ∧
      t.outsideSymbol k = s.outsideSymbol k := by
  have hsame : decodeSymbol k (s.setTree k (s.tree k).resetCursor) = decodeSymbol k s := by
    rw [decodeSymbol, decodeSymbol, setTree_setTree, setTree_tree_same, setTree_bitsLeft]
    rfl
  have hstream := setTree_streamBits s k (s.tree k).resetCursor
  obtain ⟨hfollows, -⟩ := decodeSymbolFollowsCode (s.setTree k (s.tree k).resetCursor) k
    (by simpa [State.readerOk] using hr) (by rwa [setTree_tree_same])
  obtain ⟨t, hdecode, hrest, hok, hpos, -⟩ := hfollows bits rest sym (by rwa [setTree_tree_same]) (hstream.trans hs)
  rw [hsame] at hdecode
  rw [setTree_bitpos] at hpos
  exact ⟨t, hdecode, ⟨by rw [hs, hrest], hok, hpos⟩, hrest, (decodeSymbol_ends k s).of_ok hdecode⟩

/-- The same for the canonical code of a symbol. -/
theorem decodeSymbol_of_codeWord {s : State} {k : Sel} {lens : List Nat} {i : Nat} {rest : List Bool} (hr : s.readerOk)
    (hk : DecodesLengths s k lens) (hi : i < 512) (hne : lens.getD i 0 ≠ 0)
    (hs : s.streamBits = codeWord lens i ++ rest) :
    ∃ sym t, decodeSymbol k s = .ok sym t ∧ sym.toNat = i ∧ Consumed s (codeWord lens i) t ∧ t.streamBits = rest ∧
      t.outsideSymbol k = s.outsideSymbol k := by
  obtain ⟨hwf, hcodes⟩ := hk
  obtain ⟨t, hdecode, hcons, hrest, hkept⟩ := decodeSymbol_of_code hr hwf (hcodes i hne) hs
  exact ⟨_, t, hdecode, by rw [BitVec.toNat_ofNat, Nat.mod_eq_of_lt hi], hcons, hrest, hkept⟩

end Sys2Proof.Machine
end

section
/-! SUPPORT. The lengths a block sends: the code-length alphabet, and the sequence its items spell (R115, R116, R216 to
R223). -/

namespace Sys2Proof.Machine

/-! ### Fields as bits (R70) -/

theorem numBits_length (n v : Nat) : (numBits n v).length = n := by simp [numBits]

theorem bitsValue_numBits {n v : Nat} (h : v < 2 ^ n) : bitsValue (numBits n v) = v :=
  (bitsValue_testBit v n).trans (Nat.mod_eq_of_lt h)

/-- A read of a field at the front of the stream answers its value. -/
theorem readBits_numBits {n v : Nat} (hn : n ≤ 32) (hv : v < 2 ^ n) {s : State} (hr : s.readerOk) {rest : List Bool}
    (hs : s.streamBits = numBits n v ++ rest) :
    ∃ t, readBits n false s = .ok v t ∧ Consumed s (numBits n v) t ∧ t.streamBits = rest ∧
      t.withoutReader = s.withoutReader := by
  have hread := readBits_consumed hn hr hs (numBits_length n v)
  rwa [bitsValue_numBits hv] at hread

/-! ### The code-length alphabet (R216) -/

/-- No index is beyond the array of an alphabet. -/
theorem lenAt_of_asize_le {s : State} {k : Sel} {i : Nat} (h : Config.asize k ≤ i) : s.lenAt k i = 0 :=
  lens_getD_eq_zero_iff.mp (List.getD_eq_default _ _ (by rwa [lens_length]))

theorem clearLens_lenAt_same (s : State) (k : Sel) (i : Nat) : (s.clearLens k).lenAt k i = 0 := by
  cases k <;> simp [State.clearLens, State.lenAt, Vector.getElem?_replicate] <;> split <;> rfl

/-- The lengths sent are scattered over the symbols they are sent for. -/
theorem readClLengths_consumed {cl : List Nat} (hcl : ∀ i, cl.getD i 0 ≤ 7) (syms : List Nat)
    (hsyms : ∀ i ∈ syms, i < 19) {s : State} (hr : s.readerOk) {rest : List Bool}
    (hs : s.streamBits = syms.flatMap (fun i => numBits 3 (cl.getD i 0)) ++ rest) :
    ∃ t, readClLengths syms s = .ok () t ∧ Consumed s (syms.flatMap fun i => numBits 3 (cl.getD i 0)) t ∧
      t.streamBits = rest ∧
      ∀ i, (t.lenAt .cl i).toNat = if i ∈ syms then cl.getD i 0 else (s.lenAt .cl i).toNat := by
  induction syms generalizing s with
  | nil => exact ⟨s, rfl, consumed_nil hr, hs, fun i => by rw [if_neg List.not_mem_nil]⟩
  | cons sym syms ih =>
    rw [List.flatMap_cons, List.append_assoc] at hs
    obtain ⟨u, hread, hcons, hrest, hkept⟩ :=
      readBits_numBits (by decide) (Nat.lt_succ_of_le (hcl sym)) hr hs
    obtain ⟨t, hreads, hcons', hrest', hlens⟩ := ih (fun i hi => hsyms i (List.mem_cons_of_mem _ hi))
      (s := u.setLen .cl sym (BitVec.ofNat 4 (cl.getD sym 0))) hcons.readerOk hrest
    refine ⟨t, by rw [readClLengths, hread, Res.bind_ok, hreads], hcons.trans hcons', hrest', fun i => ?_⟩
    have hsame : u.lenAt .cl i = s.lenAt .cl i := eq_of_without (fun w => w.lenAt .cl i) hkept rfl
    have hvalue : (BitVec.ofNat 4 (cl.getD sym 0)).toNat = cl.getD sym 0 := by
      rw [BitVec.toNat_ofNat, Nat.mod_eq_of_lt (Nat.lt_of_le_of_lt (hcl sym) (by decide))]
    rw [hlens i]
    by_cases hi : i ∈ syms
    · rw [if_pos hi, if_pos (List.mem_cons_of_mem _ hi)]
    · rw [if_neg hi]
      by_cases hsym : i = sym
      · subst hsym
        have hlt : i < Config.asize .cl := hsyms i List.mem_cons_self
        rw [if_pos List.mem_cons_self, lenAt_setLen_same _ _ _ _ hlt (by rw [hvalue]; exact hcl i), hvalue]
      · rw [if_neg (by simp [hsym, hi]), lenAt_setLen_other _ _ _ _ _ _ (.inr hsym), hsame]

/-- ReadCodeLengthAlphabet reads the lengths of the alphabet, the ones not sent being 0. -/
theorem readClAlphabet_consumed {cl : List Nat} (hlen : cl.length = 19) (hcl : ∀ l ∈ cl, l ≤ 7) {s : State}
    (hzero : ∀ i ∈ perm.drop s.loc.numCL, cl.getD i 0 = 0) (hr : s.readerOk) {rest : List Bool}
    (hs : s.streamBits = (perm.take s.loc.numCL).flatMap (fun i => numBits 3 (cl.getD i 0)) ++ rest) :
    ∃ t, readClAlphabet s = .ok () t ∧
      Consumed s ((perm.take s.loc.numCL).flatMap fun i => numBits 3 (cl.getD i 0)) t ∧ t.streamBits = rest ∧
      HasLengths t .cl cl ∧ t.outsideClLengths = s.outsideClLengths := by
  have hperm : ∀ i ∈ perm, i < 19 := by decide
  have hall : ∀ i < 19, i ∈ perm := by decide
  have hle : ∀ i, cl.getD i 0 ≤ 7 := fun i => by
    by_cases hi : i < cl.length
    · rw [List.getD_eq_getElem _ _ hi]
      exact hcl _ (List.getElem_mem hi)
    · rw [List.getD_eq_default _ _ (Nat.not_lt.mp hi)]
      exact Nat.zero_le _
  obtain ⟨t, hreads, hcons, hrest, hlens⟩ := readClLengths_consumed hle (perm.take s.loc.numCL)
    (fun i hi => hperm i (List.mem_of_mem_take hi)) (s := s.clearLens .cl) hr hs
  refine ⟨t, hreads, hcons, hrest, fun i => ?_, ((readClLengths_ends _ _).of_ok hreads :)⟩
  rw [hlens i]
  split
  case isTrue => rfl
  case isFalse hi =>
    rw [clearLens_lenAt_same]
    by_cases hlt : i < 19
    · have hmem : i ∈ perm.take s.loc.numCL ++ perm.drop s.loc.numCL := by
        rw [List.take_append_drop]
        exact hall i hlt
      exact (hzero i ((List.mem_append.mp hmem).resolve_left hi)).symm
    · exact (List.getD_eq_default _ _ (by omega)).symm

/-! ### What has been produced of the sequence (R116, R218) -/

/-- The lengths produced so far are these: the count of them is k, and the two arrays hold them and are 0 beyond; the
counts of the block are in range. -/
def Produced (xs : List Nat) (s : State) : Prop :=
  s.loc.numLL ≤ 288 ∧ s.loc.numDist ≤ 32 ∧ xs.length ≤ s.loc.numLL + s.loc.numDist ∧ s.loc.k = xs.length ∧
  (∀ m, (s.lenAt .ll m).toNat = if m < s.loc.numLL then xs.getD m 0 else 0) ∧
  ∀ m, (s.lenAt .dist m).toNat = xs.getD (s.loc.numLL + m) 0

theorem getD_append_replicate (xs : List Nat) (n v m : Nat) : (xs ++ List.replicate n v).getD m 0 =
    if xs.length ≤ m ∧ m < xs.length + n then v else xs.getD m 0 := by
  rcases Nat.lt_or_ge m xs.length with hm | hm
  · rw [List.getD_append _ _ _ _ hm, if_neg (by omega)]
  · rw [List.getD_append_right _ _ _ _ hm, List.getD_eq_default xs _ hm]
    by_cases hn : m < xs.length + n
    · have hplace : m - xs.length < n := by omega
      rw [if_pos ⟨hm, hn⟩]
      simp [hplace]
    · rw [if_neg (by omega), List.getD_eq_default _ _ (by rw [List.length_replicate]; omega)]

theorem Produced.count {xs : List Nat} {s : State} (h : Produced xs s) : s.loc.k = xs.length := by
  obtain ⟨-, -, -, hk, -⟩ := h
  exact hk

/-- A run of lengths that fits is produced. -/
theorem Produced.putLengths {xs : List Nat} {s : State} (h : Produced xs s) (v : BitVec 4) {n : Nat}
    (hfits : s.loc.k + n ≤ s.loc.numLL + s.loc.numDist) :
    Produced (xs ++ List.replicate n v.toNat) (putLengths v n s) := by
  obtain ⟨hll, hdist, -, hk, hlens, hdists⟩ := h
  have hloc := putLengths_loc v n s
  rw [Produced, hloc]
  refine ⟨hll, hdist, by simpa [hk] using hfits, by simp [hk], fun m => ?_, fun m => ?_⟩
  · rw [getD_append_replicate]
    by_cases hm : m < 288
    · rw [putLengths_lenAt_ll v n s hm, apply_ite BitVec.toNat, hlens m, hk]
      by_cases hlow : m < s.loc.numLL
      · simp only [hlow, true_and, if_true]
      · simp only [hlow, false_and, if_false]
    · rw [lenAt_of_asize_le (Nat.not_lt.mp hm), if_neg (by dsimp only; omega)]
      rfl
  · rw [getD_append_replicate]
    by_cases hm : m < 32
    · rw [putLengths_lenAt_dist v n s hm, apply_ite BitVec.toNat, hdists m, hk]
    · rw [lenAt_of_asize_le (Nat.not_lt.mp hm), if_neg (by dsimp only; omega),
        List.getD_eq_default _ _ (by dsimp only; omega)]
      rfl

/-- At the start of DecodeLLAndDistLengths nothing has been. -/
theorem produced_startLengths {s : State} (hll : s.loc.numLL ≤ 288) (hdist : s.loc.numDist ≤ 32) :
    Produced [] (startLengths s) := by
  refine ⟨hll, hdist, Nat.zero_le _, rfl, fun m => ?_, fun m => ?_⟩
  · have hzero : (startLengths s).lenAt .ll m = 0 := clearLens_lenAt_same (s.setPhase .decodeLLAndDistLengths) .ll m
    rw [hzero, List.getD_nil, ite_self]
    rfl
  · have hzero : (startLengths s).lenAt .dist m = 0 := clearLens_lenAt_same s .dist m
    rw [hzero, List.getD_nil]
    rfl

/-- DecodeSymbol leaves what has been produced. -/
theorem Produced.of_outsideSymbol {xs : List Nat} {s t : State} (h : Produced xs s)
    (hkept : t.outsideSymbol .cl = s.outsideSymbol .cl) : Produced xs t :=
  (eq_of_without (Produced xs) hkept rfl).mpr h

theorem Produced.of_withoutReader {xs : List Nat} {s t : State} (h : Produced xs s)
    (hkept : t.withoutReader = s.withoutReader) : Produced xs t :=
  (eq_of_without (Produced xs) hkept rfl).mpr h

/-- lastLength is not part of it. -/
theorem Produced.setLastLength {xs : List Nat} {s : State} (h : Produced xs s) (v : BitVec 4) :
    Produced xs (setLastLength v s) := h

/-! ### The sequence of a block that is decoded (R218) -/

theorem repeatLast_produced {n : Nat} {xs : List Nat} {s t : State} (h : Produced xs s)
    (ht : repeatLast n s = .ok () t) : ∃ ys, Produced ys t := by
  simp only [repeatLast] at ht
  split at ht
  case isTrue => cases ht
  case isFalse hfits =>
    cases ht
    exact ⟨_, h.putLengths _ (Nat.not_lt.mp hfits)⟩

theorem clSymbol_produced {v : Nat} {xs : List Nat} {s t : State} (h : Produced xs s)
    (hroom : s.loc.k < s.loc.numLL + s.loc.numDist) (ht : clSymbol v s = .ok () t) : ∃ ys, Produced ys t := by
  have hrepeat : ∀ {n : Nat} {f : Nat → State → Res Unit},
      (∀ x u, Produced xs u → f x u = .ok () t → ∃ ys, Produced ys t) → (readBits n false s).bind f = .ok () t →
      ∃ ys, Produced ys t := fun hf hread => by
    obtain ⟨x, u, hread, hu⟩ := Res.bind_eq_ok hread
    exact hf x u (h.of_withoutReader ((readBits_ends _ s).of_ok hread)) hu
  simp only [clSymbol] at ht
  split at ht
  · cases ht
    exact ⟨_, (h.putLengths (BitVec.ofNat 4 v) (n := 1) hroom).setLastLength _⟩
  · split at ht
    · exact hrepeat (fun x u hu hrep => repeatLast_produced hu hrep) ht
    · split at ht
      · exact hrepeat (fun x u hu hrep => repeatLast_produced (hu.setLastLength 0) hrep) ht
      · split at ht
        · exact hrepeat (fun x u hu hrep => repeatLast_produced (hu.setLastLength 0) hrep) ht
        · cases ht

theorem lengthLoop_produced {fuel : Nat} {xs : List Nat} {s t : State} (h : Produced xs s)
    (ht : lengthLoop fuel s = .ok () t) : ∃ ys, Produced ys t := by
  induction fuel generalizing xs s with
  | zero => cases ht
  | succ fuel ih =>
    simp only [lengthLoop] at ht
    split at ht
    case isTrue hroom =>
      obtain ⟨sym, u, hdecode, ht⟩ := Res.bind_eq_ok ht
      obtain ⟨_, w, hsymbol, ht⟩ := Res.bind_eq_ok ht
      have hkept := (decodeSymbol_ends .cl s).of_ok hdecode
      have hroom' : u.loc.k < u.loc.numLL + u.loc.numDist := by
        rwa [eq_of_without State.loc hkept rfl]
      obtain ⟨ys, hys⟩ := clSymbol_produced (h.of_outsideSymbol hkept) hroom' hsymbol
      exact ih hys ht
    case isFalse =>
      cases ht
      exact ⟨xs, h⟩

/-! ### The sequence that items spell (R115) -/

theorem Consumed.bitsLeft_le {s t : State} {bits : List Bool} (h : Consumed s bits t) : t.bitsLeft ≤ s.bitsLeft := by
  rw [← streamBits_length, ← streamBits_length, h.1, List.length_append]
  exact Nat.le_add_left _ _

/-- From `s` a loop goes on in `t` with fuel to spare, these bits consumed and what it does not write the same. -/
structure LoopRun (loop : Nat → State → Res Unit) (outside : State → State) (s : State) (bits : List Bool) (t : State) :
    Prop where
  rounds : ∀ fuel, s.bitsLeft < fuel → ∃ fuel', t.bitsLeft < fuel' ∧ loop fuel s = loop fuel' t
  consumed : Consumed s bits t
  frame : outside t = outside s

section
variable {loop : Nat → State → Res Unit} {outside : State → State}

theorem loopRun_refl {s : State} (hr : s.readerOk) : LoopRun loop outside s [] s where
  rounds fuel h := ⟨fuel, h, rfl⟩
  consumed := consumed_nil hr
  frame := rfl

theorem LoopRun.trans {s t u : State} {bits more : List Bool} (h : LoopRun loop outside s bits t)
    (h' : LoopRun loop outside t more u) : LoopRun loop outside s (bits ++ more) u where
  rounds fuel hfuel := by
    obtain ⟨fuel', hfuel', hloop⟩ := h.rounds fuel hfuel
    obtain ⟨fuel'', hfuel'', hloop'⟩ := h'.rounds fuel' hfuel'
    exact ⟨fuel'', hfuel'', hloop.trans hloop'⟩
  consumed := h.consumed.trans h'.consumed
  frame := h'.frame.trans h.frame

/-- A round that consumes a bit runs, whatever the fuel left. -/
theorem loopRun_of_round {s t : State} {bits : List Bool} (hround : ∀ fuel, loop (fuel + 1) s = loop fuel t)
    (hdrop : t.bitsLeft < s.bitsLeft) (hcons : Consumed s bits t) (hkept : outside t = outside s) :
    LoopRun loop outside s bits t where
  rounds fuel hfuel := by
    obtain ⟨fuel, rfl⟩ : ∃ n, fuel = n + 1 := ⟨fuel - 1, by omega⟩
    exact ⟨fuel, by omega, hround fuel⟩
  consumed := hcons
  frame := hkept

/-- A run to a state that ends the loop ends it. -/
theorem LoopRun.ends {s t u : State} {bits : List Bool} (h : LoopRun loop outside s bits t)
    (hend : ∀ fuel, loop (fuel + 1) t = .ok () u) : loop (s.bitsLeft + 1) s = .ok () u := by
  obtain ⟨fuel, hfuel, hloop⟩ := h.rounds _ (Nat.lt_succ_self _)
  obtain ⟨fuel, rfl⟩ : ∃ n, fuel = n + 1 := ⟨fuel - 1, by omega⟩
  exact hloop.trans (hend fuel)

end

/-- Runs of the loop of DecodeLLAndDistLengths. -/
abbrev LengthRun : State → List Bool → State → Prop := LoopRun lengthLoop State.outsideLengths

/-- One round: a symbol by its code, and then what the symbol does. -/
theorem lengthRun_of_symbol {s u t : State} {bits more : List Bool} {sym : BitVec 9}
    (hroom : s.loc.k < s.loc.numLL + s.loc.numDist) (hdecode : decodeSymbol .cl s = .ok sym u)
    (hcons : Consumed s bits u) (hsymbol : clSymbol sym.toNat u = .ok () t)
    (hcons' : Consumed u more t) : LengthRun s (bits ++ more) t := by
  have hkept := eq_of_without State.outsideLengths ((decodeSymbol_ends .cl s).of_ok hdecode) rfl
  refine loopRun_of_round (fun fuel => ?_) ?_ (hcons.trans hcons') (((clSymbol_ends _ u).of_ok hsymbol).trans hkept)
  · rw [lengthLoop, if_pos hroom, hdecode, Res.bind_ok, hsymbol, Res.bind_ok]
  · exact Nat.lt_of_le_of_lt hcons'.bitsLeft_le (decodeSymbol_ok_bitsLeft hdecode)

/-- The lengths an item stands for, after a given lastLength. -/
def LengthItem.lengths (last : Nat) : LengthItem → List Nat
  | .one l => [l]
  | .again x => List.replicate (3 + x) last
  | .zeros x => List.replicate (3 + x) 0
  | .manyZeros x => List.replicate (11 + x) 0

/-- The lastLength it leaves. -/
def LengthItem.lastLength (last : Nat) : LengthItem → Nat
  | .one l => l
  | .again _ => last
  | .zeros _ => 0
  | .manyZeros _ => 0

theorem expandLengths_cons (last : Nat) (it : LengthItem) (items : List LengthItem) :
    expandLengths last (it :: items) = it.lengths last ++ expandLengths (it.lastLength last) items := by
  cases it <;> rfl

section
variable {s : State} {cl : List Nat} {rest : List Bool} {xs : List Nat} (hr : s.readerOk)
  (hk : DecodesLengths s .cl cl) (hp : Produced xs s)
include hr hk hp

/-- A repeat that fits. -/
theorem lengthRun_of_repeat {i e base x : Nat} {v : BitVec 4}
    (hrow : (i = 16 ∧ e = 2 ∧ base = 3 ∧ v = s.loc.lastLength) ∨ (i = 17 ∧ e = 3 ∧ base = 3 ∧ v = 0) ∨
      (i = 18 ∧ e = 7 ∧ base = 11 ∧ v = 0))
    (hx : x < 2 ^ e) (hne : cl.getD i 0 ≠ 0) (hfits : s.loc.k + (base + x) ≤ s.loc.numLL + s.loc.numDist)
    (hs : s.streamBits = codeWord cl i ++ numBits e x ++ rest) :
    ∃ t, LengthRun s (codeWord cl i ++ numBits e x) t ∧ Produced (xs ++ List.replicate (base + x) v.toNat) t ∧
      t.loc.lastLength.toNat = v.toNat := by
  obtain ⟨he, hi, hbase, f, hclSymbol, hf⟩ := clSymbol_of_repeat hrow
  rw [List.append_assoc] at hs
  obtain ⟨sym, u, hdecode, hsym, hcons, hrest, hkept⟩ := decodeSymbol_of_codeWord hr hk hi hne hs
  obtain ⟨w, hread, hcons', -, hkept'⟩ := readBits_numBits he hx hcons.readerOk hrest
  have hloc : w.loc = s.loc := (eq_of_without State.loc hkept' rfl).trans (eq_of_without State.loc hkept rfl)
  have hw : Produced xs w := (hp.of_outsideSymbol hkept).of_withoutReader hkept'
  have hsymbol : clSymbol sym.toNat u = .ok () (putLengths v (base + x) (setLastLength v w)) := by
    rw [hsym, hclSymbol, hread, Res.bind_ok, hf x w hloc]
    exact repeatLast_of_fits (by
      show w.loc.k + _ ≤ w.loc.numLL + w.loc.numDist
      rwa [hloc])
  have hstay := putLengths_withoutSequence v (base + x) (setLastLength v w)
  have hcons'' : Consumed u (numBits e x) (putLengths v (base + x) (setLastLength v w)) :=
    (eq_of_without (Consumed u (numBits e x)) hstay rfl).mpr hcons'
  refine ⟨_, lengthRun_of_symbol (by omega) hdecode hcons hsymbol hcons'', (hw.setLastLength v).putLengths v ?_, ?_⟩
  · show w.loc.k + _ ≤ w.loc.numLL + w.loc.numDist
    rwa [hloc]
  · rw [putLengths_loc]
    rfl

/-- A length of its own. -/
theorem lengthRun_of_length {l : Nat} (hl : l ≤ 15) (hne : cl.getD l 0 ≠ 0)
    (hroom : s.loc.k < s.loc.numLL + s.loc.numDist) (hs : s.streamBits = codeWord cl l ++ rest) :
    ∃ t, LengthRun s (codeWord cl l) t ∧ Produced (xs ++ [l]) t ∧ t.loc.lastLength.toNat = l := by
  obtain ⟨sym, u, hdecode, hsym, hcons, -, hkept⟩ := decodeSymbol_of_codeWord hr hk (by omega) hne hs
  have hvalue : (BitVec.ofNat 4 l).toNat = l := by rw [BitVec.toNat_ofNat, Nat.mod_eq_of_lt (by omega)]
  have hloc : u.loc = s.loc := eq_of_without State.loc hkept rfl
  have hsymbol : clSymbol sym.toNat u =
      .ok () (setLastLength (BitVec.ofNat 4 l) (putLengths (BitVec.ofNat 4 l) 1 u)) := by
    rw [hsym, clSymbol, if_pos hl]
    rfl
  have hstay := putLengths_withoutSequence (BitVec.ofNat 4 l) 1 u
  have hcons' : Consumed u [] (setLastLength (BitVec.ofNat 4 l) (putLengths (BitVec.ofNat 4 l) 1 u)) :=
    (eq_of_without (Consumed u []) hstay rfl).mpr (consumed_nil hcons.readerOk)
  have hrun := lengthRun_of_symbol hroom hdecode hcons hsymbol hcons'
  have hput := (hp.of_outsideSymbol hkept).putLengths (BitVec.ofNat 4 l) (n := 1) (by rwa [hloc])
  rw [List.append_nil] at hrun
  rw [hvalue] at hput
  exact ⟨_, hrun, hput.setLastLength _, hvalue⟩

/-- An item that fits. -/
theorem lengthRun_of_item {it : LengthItem} (hok : it.ok cl = true)
    (hfits : xs.length + (it.lengths s.loc.lastLength.toNat).length ≤ s.loc.numLL + s.loc.numDist)
    (hs : s.streamBits = it.bits cl ++ rest) :
    ∃ t, LengthRun s (it.bits cl) t ∧ Produced (xs ++ it.lengths s.loc.lastLength.toNat) t ∧
      t.loc.lastLength.toNat = it.lastLength s.loc.lastLength.toNat := by
  rw [← hp.count] at hfits
  cases it with
  | one l =>
    obtain ⟨hl, hne⟩ : l ≤ 15 ∧ cl.getD l 0 ≠ 0 := by simpa [LengthItem.ok] using hok
    exact lengthRun_of_length hr hk hp hl hne hfits hs
  | again x =>
    obtain ⟨hx, hne⟩ : x < 4 ∧ cl.getD 16 0 ≠ 0 := by simpa [LengthItem.ok] using hok
    exact lengthRun_of_repeat hr hk hp (.inl ⟨rfl, rfl, rfl, rfl⟩) hx hne
      (by simpa [LengthItem.lengths] using hfits) hs
  | zeros x =>
    obtain ⟨hx, hne⟩ : x < 8 ∧ cl.getD 17 0 ≠ 0 := by simpa [LengthItem.ok] using hok
    exact lengthRun_of_repeat hr hk hp (.inr (.inl ⟨rfl, rfl, rfl, rfl⟩)) hx hne
      (by simpa [LengthItem.lengths] using hfits) hs
  | manyZeros x =>
    obtain ⟨hx, hne⟩ : x < 128 ∧ cl.getD 18 0 ≠ 0 := by simpa [LengthItem.ok] using hok
    exact lengthRun_of_repeat hr hk hp (.inr (.inr ⟨rfl, rfl, rfl, rfl⟩)) hx hne
      (by simpa [LengthItem.lengths] using hfits) hs

end

/-- Items that complete the sequence. -/
theorem lengthRun_of_items {cl ys : List Nat} (items : List LengthItem) (hok : ∀ it ∈ items, it.ok cl = true)
    {s : State} {xs : List Nat} {rest : List Bool} (hr : s.readerOk) (hk : DecodesLengths s .cl cl) (hp : Produced xs s)
    (hseq : xs ++ expandLengths s.loc.lastLength.toNat items = ys) (hys : ys.length = s.loc.numLL + s.loc.numDist)
    (hs : s.streamBits = items.flatMap (LengthItem.bits cl) ++ rest) :
    ∃ t, LengthRun s (items.flatMap (LengthItem.bits cl)) t ∧ Produced ys t := by
  induction items generalizing s xs with
  | nil =>
    rw [expandLengths, List.append_nil] at hseq
    exact ⟨s, loopRun_refl hr, hseq ▸ hp⟩
  | cons it items ih =>
    rw [List.flatMap_cons, List.append_assoc] at hs
    rw [expandLengths_cons, ← List.append_assoc] at hseq
    have hfits : xs.length + (it.lengths s.loc.lastLength.toNat).length ≤ s.loc.numLL + s.loc.numDist := by
      rw [← hys, ← hseq, List.length_append, List.length_append]
      exact Nat.le_add_right _ _
    obtain ⟨t, hrun, hput, hlast⟩ := lengthRun_of_item hr hk hp (hok it List.mem_cons_self) hfits hs
    have htotal : t.loc.numLL = s.loc.numLL ∧ t.loc.numDist = s.loc.numDist :=
      ⟨eq_of_without (fun w => w.loc.numLL) hrun.frame rfl, eq_of_without (fun w => w.loc.numDist) hrun.frame rfl⟩
    have hk' : DecodesLengths t .cl cl := (eq_of_without (fun w => DecodesLengths w .cl cl) hrun.frame rfl).mpr hk
    obtain ⟨u, hrun', hput'⟩ := ih (fun j hj => hok j (List.mem_cons_of_mem _ hj)) hrun.consumed.readerOk hk' hput
      (by rw [hlast]; exact hseq) (by rw [htotal.1, htotal.2]; exact hys) (hrun.consumed.streamBits_eq hs)
    exact ⟨u, hrun.trans hrun', hput'⟩

/-- DecodeLLAndDistLengths decodes the sequence that items spell. -/
theorem decodeLengths_consumed {cl ll dist : List Nat} {items : List LengthItem}
    (hok : ∀ it ∈ items, it.ok cl = true) {s : State} {rest : List Bool} (hr : s.readerOk)
    (hk : DecodesLengths s .cl cl) (hll : s.loc.numLL = ll.length) (hdist : s.loc.numDist = dist.length)
    (hll' : ll.length ≤ 288) (hdist' : dist.length ≤ 32) (hseq : expandLengths 0 items = ll ++ dist)
    (hs : s.streamBits = items.flatMap (LengthItem.bits cl) ++ rest) :
    ∃ t, decodeLengths s = .ok () t ∧ Consumed s (items.flatMap (LengthItem.bits cl)) t ∧ t.streamBits = rest ∧
      HasLengths t .ll ll ∧ HasLengths t .dist dist ∧ t.outsideLengths = (startLengths s).outsideLengths := by
  obtain ⟨t, hrun, hput⟩ := lengthRun_of_items items hok (s := startLengths s) hr hk
    (produced_startLengths (by omega) (by omega)) hseq
    (by rw [List.length_append, ← hll, ← hdist]; rfl) hs
  have hnumLL : t.loc.numLL = ll.length := (eq_of_without (fun w => w.loc.numLL) hrun.frame rfl).trans hll
  have hnumDist : t.loc.numDist = dist.length := (eq_of_without (fun w => w.loc.numDist) hrun.frame rfl).trans hdist
  obtain ⟨-, -, -, hcount, hlens, hdists⟩ := hput
  rw [hnumLL] at hlens hdists
  rw [List.length_append] at hcount
  have hend : ∀ fuel, lengthLoop (fuel + 1) t = .ok () t := fun fuel => by rw [lengthLoop, if_neg (by omega)]
  refine ⟨t, hrun.ends hend, hrun.consumed, hrun.consumed.streamBits_eq hs, fun i => ?_, fun i => ?_, hrun.frame⟩
  · rw [hlens i]
    split
    case isTrue hi => rw [List.getD_append _ _ _ _ hi]
    case isFalse hi => rw [List.getD_eq_default _ _ (Nat.not_lt.mp hi)]
  · rw [hdists i, List.getD_append_right _ _ _ _ (Nat.le_add_right _ _), Nat.add_sub_cancel_left]

end Sys2Proof.Machine
end

section
/-! SUPPORT. What a block that completes leaves in the tables: the codes and trees of its lengths (R216, R218, R225,
R239). -/

namespace Sys2Proof.Machine

/-- The code table and the tree of an alphabet are those of its lengths, wherever the cursor is. -/
def Loaded (k : Sel) (s : State) : Prop :=
  s.codes k = canonicalCodes (s.lens k) ∧
  Tree.build (Config.nodecap k) (s.codes k) 0 Tree.empty = (none, (s.tree k).resetCursor)

/-- A build that completes leaves the cursor on the root (R187). -/
theorem buildCodes_build_cursor {s : State} {k : Sel} {t : Tree}
    (h : Tree.build (Config.nodecap k) ((s.buildCodes k).codes k) 0 Tree.empty = (none, t)) : t.cur = 0 := by
  have hlen := buildCodes_clen_le s k
  have hok : ∀ i, i < Config.asize k → ¬ (s.buildCodes k).codeFails k i := fun i hi hfails => by
    have hviolation := build_violation hlen hi hfails
    rw [h] at hviolation
    cases hviolation
  obtain ⟨u, hu, hbuild⟩ := build_completes hlen hok
  cases hbuild.symm.trans h
  exact hu.cursor

theorem loaded_of_buildTree {s t : State} {k : Sel} (h : buildTree k (s.buildCodes k) = .ok () t) :
    Loaded k t ∧ ∃ u, t = (s.buildCodes k).setTree k u := by
  obtain ⟨u, hbuild, rfl⟩ := (buildTree_ends k s).of_ok h
  have hcur : u.resetCursor = u := by rw [Tree.resetCursor, ← buildCodes_build_cursor hbuild]
  refine ⟨⟨?_, ?_⟩, u, rfl⟩
  · rw [setTree_codes, setTree_lens, buildCodes_lens, buildCodes_codes]
  · rw [setTree_codes, setTree_tree_same, hcur, hbuild]

/-- The counts the reading of them leaves are those in BHDR (R215). -/
theorem readCounts_ok_counts {s t : State} (h : readCounts s = .ok () t) :
    t.loc.numLL = (t.bhdr.extractLsb' 3 5).toNat + 257 ∧ t.loc.numDist = (t.bhdr.extractLsb' 8 5).toNat + 1 := by
  obtain ⟨hlit, s1, h1, h⟩ := Res.bind_eq_ok h
  obtain ⟨hdist, s2, h2, h⟩ := Res.bind_eq_ok h
  obtain ⟨hclen, s3, h3, h⟩ := Res.bind_eq_ok h
  cases h
  have hlt1 := readBits_ok_lt h1
  have hlt2 := readBits_ok_lt h2
  have hlt3 := readBits_ok_lt h3
  have hkept2 : s2.bhdr = (s1.setBhdr 3 5 hlit).bhdr := eq_of_without State.bhdr ((readBits_ends _ _).of_ok h2) rfl
  have hkept3 : s3.bhdr = (s2.setBhdr 8 5 hdist).bhdr := eq_of_without State.bhdr ((readBits_ends _ _).of_ok h3) rfl
  constructor
  · show hlit + 257 = ((s3.setBhdr 13 4 hclen).bhdr.extractLsb' 3 5).toNat + 257
    rw [setBhdr_field_other _ (by decide) hlt3 (.inl (by decide)), hkept3,
      setBhdr_field_other _ (by decide) hlt2 (.inl (by decide)), hkept2, setBhdr_field_same _ (by decide) hlt1]
  · show hdist + 1 = ((s3.setBhdr 13 4 hclen).bhdr.extractLsb' 8 5).toNat + 1
    rw [setBhdr_field_other _ (by decide) hlt3 (.inl (by decide)), hkept3, setBhdr_field_same _ (by decide) hlt2]

/-- The numbers of lengths of the two data alphabets are those BHDR gives (R215). -/
def CountsOfHeader (s : State) : Prop :=
  s.loc.numLL = (s.bhdr.extractLsb' 3 5).toNat + 257 ∧ s.loc.numDist = (s.bhdr.extractLsb' 8 5).toNat + 1

/-- The lengths of the two data alphabets are 0 beyond those numbers (R218). -/
def ZeroBeyondCounts (s : State) : Prop :=
  (∀ i, (s.bhdr.extractLsb' 3 5).toNat + 257 ≤ i → s.lenAt .ll i = 0) ∧
  ∀ i, (s.bhdr.extractLsb' 8 5).toNat + 1 ≤ i → s.lenAt .dist i = 0

theorem Produced.zeroBeyondCounts {xs : List Nat} {s : State} (h : Produced xs s) (hcounts : CountsOfHeader s) :
    ZeroBeyondCounts s := by
  obtain ⟨-, -, hfits, -, hlens, hdists⟩ := h
  obtain ⟨hll, hdist⟩ := hcounts
  refine ⟨fun i hi => BitVec.eq_of_toNat_eq ?_, fun i hi => BitVec.eq_of_toNat_eq ?_⟩
  · rw [hlens i, if_neg (by omega)]
    rfl
  · rw [hdists i, List.getD_eq_default _ _ (by omega)]
    rfl

/-- DecodeLLAndDistLengths leaves them so. -/
theorem decodeLengths_zeroBeyondCounts {s t : State} (h : decodeLengths s = .ok () t) (hcounts : CountsOfHeader s) :
    ZeroBeyondCounts t := by
  have hll : (s.bhdr.extractLsb' 3 5).toNat < 32 := (s.bhdr.extractLsb' 3 5).isLt
  have hdist : (s.bhdr.extractLsb' 8 5).toNat < 32 := (s.bhdr.extractLsb' 8 5).isLt
  have hstart : Produced [] (startLengths s) :=
    produced_startLengths (by rw [hcounts.1]; omega) (by rw [hcounts.2]; omega)
  obtain ⟨ys, hys⟩ := lengthLoop_produced hstart h
  have hkept := (lengthLoop_ends _ rfl).of_ok h
  exact hys.zeroBeyondCounts ((eq_of_without CountsOfHeader hkept rfl).mpr hcounts)

theorem Loaded.buildTree_other {s : State} {j : Sel} (h : Loaded j s) {k : Sel} (hj : j ≠ k) (u : Tree) :
    Loaded j ((s.buildCodes k).setTree k u) := by
  rw [Loaded, setTree_codes, setTree_lens, setTree_tree_other _ _ _ _ hj, buildCodes_codes_other _ _ _ hj,
    buildCodes_lens, buildCodes_tree]
  exact h

theorem ZeroBeyondCounts.buildTree {s : State} (h : ZeroBeyondCounts s) (k : Sel) (u : Tree) :
    ZeroBeyondCounts ((s.buildCodes k).setTree k u) := by
  simpa [ZeroBeyondCounts] using h

/-- BuildLLAndDistTrees loads the two data alphabets (R225). -/
theorem buildDataTrees_loaded {s t : State} (h : buildDataTrees s = .ok () t) (hcl : Loaded .cl s)
    (hzero : ZeroBeyondCounts s) : Loaded .cl t ∧ Loaded .ll t ∧ Loaded .dist t ∧ ZeroBeyondCounts t := by
  obtain ⟨_, s1, hll, hdist⟩ := Res.bind_eq_ok h
  obtain ⟨hloaded, u, rfl⟩ := loaded_of_buildTree hll
  obtain ⟨hloaded', v, rfl⟩ := loaded_of_buildTree hdist
  have hcl' : Loaded .cl (s.setPhase .buildLLAndDistTrees) := hcl
  have hzero' : ZeroBeyondCounts (s.setPhase .buildLLAndDistTrees) := hzero
  exact ⟨(hcl'.buildTree_other (by decide) u).buildTree_other (by decide) v, hloaded.buildTree_other (by decide) v,
    hloaded', (hzero'.buildTree .ll u).buildTree .dist v⟩

/-- What a block that completes leaves: the tables and trees of its lengths, and the LL cursor on the end of block
(R239). -/
theorem decodeBlock_ok_tables {s t : State} (h : decodeBlock s = .ok () t) :
    Loaded .cl t ∧ Loaded .ll t ∧ Loaded .dist t ∧ ZeroBeyondCounts t ∧ t.treeLL.leafAt t.treeLL.cur 256 ∧
      t.phase = .blockDone := by
  obtain ⟨btype, s1, -, h⟩ := Res.bind_eq_ok h
  obtain ⟨_, s2, htype, h⟩ := Res.bind_eq_ok h
  obtain ⟨_, s3, halphabet, h⟩ := Res.bind_eq_ok h
  obtain ⟨_, s4, hcl, h⟩ := Res.bind_eq_ok h
  obtain ⟨_, s5, hlengths, h⟩ := Res.bind_eq_ok h
  obtain ⟨_, s6, htrees, hdata⟩ := Res.bind_eq_ok h
  have hcounts2 : CountsOfHeader s2 := by
    simp only [blockType] at htype
    split at htype
    · exact readCounts_ok_counts htype
    · cases htype
  have hkept3 := (readClLengths_ends _ _).of_ok halphabet
  have hcounts3 : CountsOfHeader s3 := (eq_of_without CountsOfHeader hkept3 rfl).mpr hcounts2
  obtain ⟨hloaded4, tree, rfl⟩ := loaded_of_buildTree hcl
  have hkept5 := (lengthLoop_ends _ rfl).of_ok hlengths
  have hloaded5 : Loaded .cl s5 := (eq_of_without (Loaded .cl) hkept5 rfl).mpr hloaded4
  have hzero5 := decodeLengths_zeroBeyondCounts hlengths hcounts3
  obtain ⟨hloadedcl, hloadedll, hloadeddist, hzero6⟩ := buildDataTrees_loaded htrees hloaded5 hzero5
  obtain ⟨u, rfl, hkept, hleaf⟩ := (dataLoop_ends _ rfl).of_ok hdata
  exact ⟨(eq_of_without (Loaded .cl) hkept rfl).mpr hloadedcl, (eq_of_without (Loaded .ll) hkept rfl).mpr hloadedll,
    (eq_of_without (Loaded .dist) hkept rfl).mpr hloadeddist,
    (eq_of_without ZeroBeyondCounts hkept rfl).mpr hzero6, hleaf, rfl⟩

/-- Settles O52: an answer OK is that of a block that completes. -/
theorem dblkLeavesBlockTables : Obligations.DblkLeavesBlockTables := by
  unfold Obligations.DblkLeavesBlockTables
  intro s t r hready hexec hresp
  rw [exec_dblk_of_ready hready] at hexec
  have hends := decodeBlock_ends s
  cases hblock : decodeBlock s with
  | ok _ u =>
    rw [hblock] at hexec
    obtain rfl := Host.Outcome.next.inj hexec
    obtain ⟨hcl, hll, hdist, hzero, hleaf, hphase⟩ := decodeBlock_ok_tables hblock
    refine ⟨fun k => ?_, hzero.1, hzero.2, hleaf, congrArg Phase.toBits hphase⟩
    cases k
    · exact hcl
    · exact hll
    · exact hdist
  | err e u =>
    rw [hblock] at hexec hends
    obtain rfl := Host.Outcome.next.inj hexec
    obtain ⟨hstream, -⟩ := hends
    obtain rfl : e = .ok := congrArg Response.status (Option.some.inj hresp)
    exact absurd hstream (by decide)
  | stuck =>
    rw [hblock] at hexec
    cases hexec

end Sys2Proof.Machine
end

section
/-! SUPPORT. The data of a block: literals, back-references and the end of block, each by its code (R117 to R120, R226
to R236). -/

namespace Sys2Proof.Machine

/-! ### Literals and the end of block (R227, R228) -/

/-- The nodes alone make a tree's codes, so that the cursor is no part of them. -/
theorem codeOf_resetCursor {t : Tree} {bits : List Bool} {sym : BitVec 9} :
    t.resetCursor.codeOf bits sym ↔ t.codeOf bits sym := by
  have hnodes : t.resetCursor.nodes = t.nodes := rfl
  simp only [Tree.codeOf, Tree.leafAt, walk_of_nodes_eq hnodes, node_of_nodes_eq hnodes]

/-- What literals leave as it is: all but the bit reader, the LL cursor, the window and the output. -/
def State.outsideLiterals (s : State) : State := (s.outsideSymbol .ll).withoutWindow

section
variable {s : State} {bits rest : List Bool} (hr : s.readerOk)
  (hwf : s.treeLL.resetCursor.wf (Config.nodecap .ll)) (hs : s.streamBits = bits ++ rest)
include hr hwf hs

/-- A literal by its code is one round, which appends the byte. -/
theorem dataLoop_of_literal {b : Byte} (hcode : s.treeLL.resetCursor.codeOf bits (b.setWidth 9)) :
    ∃ u : State, u.outsideSymbol .ll = s.outsideSymbol .ll ∧
      LoopRun dataLoop State.outsideLiterals s bits (u.append b) := by
  obtain ⟨u, hdecode, hcons, -, hkept⟩ := decodeSymbol_of_code (k := .ll) hr hwf hcode hs
  have hvalue : (b.setWidth 9).toNat = b.toNat := BitVec.toNat_setWidth_of_le (by decide)
  have hbyte : b.toNat < 256 := b.isLt
  have hsymbol : llSymbol b.toNat u = .ok () (u.append b) := by
    have hrow := llSymbol_of_literal (v := b.setWidth 9) (by omega) u
    rwa [hvalue, BitVec.setWidth_setWidth_of_le _ (by decide), BitVec.setWidth_eq] at hrow
  have hstay : (u.append b).outsideLiterals = s.outsideLiterals :=
    (eq_of_without State.outsideLiterals hkept rfl :)
  refine ⟨u, hkept, loopRun_of_round (fun fuel => ?_) (decodeSymbol_ok_bitsLeft hdecode :) hcons hstay⟩
  rw [dataLoop, hdecode, Res.bind_ok, hvalue, hsymbol, Res.bind_ok, if_neg (by omega), if_pos hbyte]

/-- The end of block by its code ends the loop with BlockDone. -/
theorem dataLoop_of_endOfBlock (hcode : s.treeLL.resetCursor.codeOf bits 256) :
    ∃ u, (∀ fuel, dataLoop (fuel + 1) s = .ok () u.blockDone) ∧ Consumed s bits u ∧ u.streamBits = rest ∧
      u.outsideSymbol .ll = s.outsideSymbol .ll := by
  obtain ⟨u, hdecode, hcons, hrest, hkept⟩ := decodeSymbol_of_code (k := .ll) hr hwf hcode hs
  refine ⟨u, fun fuel => ?_, hcons, hrest, hkept⟩
  rw [dataLoop, hdecode, Res.bind_ok]
  rfl

end

/-- A sequence of literals. -/
theorem literals_run (items : List (List Bool × Byte)) {s : State} {rest : List Bool} (hr : s.readerOk)
    (hwf : s.treeLL.resetCursor.wf (Config.nodecap .ll))
    (hcodes : ∀ c ∈ items, s.treeLL.resetCursor.codeOf c.1 (c.2.setWidth 9))
    (hs : s.streamBits = items.flatMap (fun c => c.1) ++ rest) :
    ∃ t, LoopRun dataLoop State.outsideLiterals s (items.flatMap fun c => c.1) t ∧
      t.output = s.output ++ items.map (fun c => c.2) ∧ t.outcnt = s.outcnt + BitVec.ofNat 64 items.length := by
  induction items generalizing s with
  | nil => exact ⟨s, loopRun_refl hr, by simp, by simp⟩
  | cons c items ih =>
    rw [List.flatMap_cons, List.append_assoc] at hs
    obtain ⟨u, hkept, hrun⟩ := dataLoop_of_literal hr hwf hs (hcodes c List.mem_cons_self)
    have htree : (u.append c.2).treeLL.resetCursor = s.treeLL.resetCursor :=
      (eq_of_without (fun w => w.treeLL.resetCursor) hkept rfl :)
    obtain ⟨t, hrun', hout, hcnt⟩ := ih hrun.consumed.readerOk (by rwa [htree])
      (fun d hd => by rw [htree]; exact hcodes d (List.mem_cons_of_mem _ hd)) (hrun.consumed.streamBits_eq hs)
    have houtput : u.output = s.output := eq_of_without State.output hkept rfl
    have houtcnt : u.outcnt = s.outcnt := eq_of_without State.outcnt hkept rfl
    refine ⟨t, hrun.trans hrun', ?_, ?_⟩
    · rw [hout, append_output, houtput, List.append_assoc]
      rfl
    · rw [hcnt, append_outcnt, houtcnt, BitVec.add_assoc, List.length_cons, Nat.add_comm, BitVec.ofNat_add]
      rfl

/-- Settles O48: the literals one by one, and then the end of block. -/
theorem literalRunDecodes : Obligations.LiteralRunDecodes := by
  unfold Obligations.LiteralRunDecodes
  intro s items eob rest hr hwf hcodes heob hs
  rw [List.append_assoc] at hs
  obtain ⟨t, hrun, hout, hcnt⟩ := literals_run items (s := s.setPhase .decodeSymbols) hr (resetCursor_wf hwf)
    (fun c hc => codeOf_resetCursor.mpr (hcodes c hc)) hs
  have htree : t.treeLL.resetCursor = s.treeLL.resetCursor :=
    (eq_of_without (fun w => w.treeLL.resetCursor) hrun.frame rfl :)
  obtain ⟨u, hend, hcons, hrest, hkept⟩ := dataLoop_of_endOfBlock hrun.consumed.readerOk
    (by rw [htree]; exact resetCursor_wf hwf) (hrun.consumed.streamBits_eq hs)
    (by rw [htree]; exact codeOf_resetCursor.mpr heob)
  have hkept' : u.outsideLiterals = (s.setPhase .decodeSymbols).outsideLiterals :=
    (eq_of_without State.outsideLiterals hkept rfl).trans hrun.frame
  have hbhdr : u.bhdr = s.bhdr := (eq_of_without State.bhdr hkept' rfl :)
  have hsstate : u.sstate = s.sstate := (eq_of_without State.sstate hkept' rfl :)
  refine ⟨u.blockDone, hrun.ends hend, ?_, hrest, (hrun.consumed.trans hcons).bitpos_eq, rfl,
    congrArg (· + 1) (eq_of_without State.blkcnt hkept' rfl :), ?_, ?_,
    ⟨(eq_of_without State.lenCL hkept' rfl :), (eq_of_without State.lenLL hkept' rfl :),
      (eq_of_without State.lenDIST hkept' rfl :)⟩,
    ⟨(eq_of_without State.codeCL hkept' rfl :), (eq_of_without State.codeLL hkept' rfl :),
      (eq_of_without State.codeDIST hkept' rfl :)⟩,
    (eq_of_without State.treeCL hkept' rfl :), (eq_of_without State.treeDIST hkept' rfl :)⟩
  · exact (eq_of_without State.output hkept rfl).trans hout
  · exact (eq_of_without State.outcnt hkept rfl).trans hcnt
  · rw [blockDone_sstate, hbhdr, hsstate]

/-! ### Back-references (R229 to R235) -/

/-- A length code with its extra bits at the front of the stream. -/
theorem lengthCode_consumed {e base x : Nat} (he : e ≤ 32) (hx : x < 2 ^ e) {s : State} (hr : s.readerOk)
    {rest : List Bool} (hs : s.streamBits = numBits e x ++ rest) :
    ∃ u, lengthCode e base s = .ok () (u.setLoc { u.loc with length := base + x }) ∧ Consumed s (numBits e x) u ∧
      u.streamBits = rest ∧ u.withoutReader = s.withoutReader := by
  obtain ⟨u, hread, hcons, hrest, hkept⟩ := readBits_numBits he hx hr hs
  exact ⟨u, by rw [lengthCode, hread, Res.bind_ok], hcons, hrest, hkept⟩

/-- A distance code with its extra bits at the front of the stream, within the bytes produced. -/
theorem distanceCode_consumed {e base x : Nat} (he : e ≤ 32) (hx : x < 2 ^ e) {s : State} (hr : s.readerOk)
    (hnear : base + x ≤ s.wfill.toNat) {rest : List Bool} (hs : s.streamBits = numBits e x ++ rest) :
    ∃ u, distanceCode e base s = .ok () (copyBytes (base + x) s.loc.length u) ∧ Consumed s (numBits e x) u ∧
      u.withoutReader = s.withoutReader := by
  obtain ⟨u, hread, hcons, -, hkept⟩ := readBits_numBits he hx hr hs
  have hfill : u.wfill = s.wfill := eq_of_without State.wfill hkept rfl
  have hloc : u.loc = s.loc := eq_of_without State.loc hkept rfl
  exact ⟨u, by rw [distanceCode, hread, Res.bind_ok, hfill, if_neg (Nat.not_lt.mpr hnear), hloc], hcons, hkept⟩

theorem copyBytes_wfill (d n : Nat) {s : State} (h : s.wfill.toNat ≤ 32768) :
    (copyBytes d n s).wfill.toNat = min (s.wfill.toNat + n) 32768 := by
  induction n generalizing s with
  | zero => rw [copyBytes]; omega
  | succ n ih =>
    have hfill := fillNext_toNat s.wfill
    rw [copyBytes, ih (by rw [append_wfill, hfill]; omega), append_wfill, hfill]
    omega

/-- After so many bytes of the stream the window holds the most recent of them. -/
def HoldsWindow (produced : Nat) (s : State) : Prop := s.windowOk ∧ s.wfill.toNat = min produced 32768

theorem holdsWindow_wfill {s : State} (h : s.windowOk) : HoldsWindow s.wfill.toNat s :=
  ⟨h, (Nat.min_eq_left (wfill_le_of_windowOk h).1).symm⟩

theorem HoldsWindow.append {produced : Nat} {s : State} (h : HoldsWindow produced s) (b : Byte) :
    HoldsWindow (produced + 1) (s.append b) := by
  obtain ⟨hwindow, hfill⟩ := h
  refine ⟨append_windowOk b hwindow, ?_⟩
  rw [append_wfill, fillNext_toNat]
  omega

theorem HoldsWindow.copyBytes {produced : Nat} {s : State} (h : HoldsWindow produced s) (d n : Nat) :
    HoldsWindow (produced + n) (copyBytes d n s) := by
  obtain ⟨hwindow, hfill⟩ := h
  refine ⟨copyBytes_windowOk d n hwindow, ?_⟩
  rw [copyBytes_wfill d n (wfill_le_of_windowOk hwindow).1]
  omega

theorem lengthTable_getElem?_entry {lc : Nat} (h1 : 257 ≤ lc) (h2 : lc ≤ 285) :
    lengthTable[lc - 257]? = some ((lengthEntry lc).1, (lengthEntry lc).2) := by
  have hlt : lc - 257 < lengthTable.length := by
    show lc - 257 < 29
    omega
  rw [lengthEntry, List.getD_eq_getElem _ _ hlt, List.getElem?_eq_getElem hlt]

theorem distanceTable_getElem?_entry {dc : Nat} (h : dc ≤ 29) :
    distanceTable[dc]? = some ((distanceEntry dc).1, (distanceEntry dc).2) := by
  have hlt : dc < distanceTable.length := Nat.lt_succ_of_le h
  rw [distanceEntry, List.getD_eq_getElem _ _ hlt, List.getElem?_eq_getElem hlt]

/-- A distance is no more than the window's size (R119). -/
theorem distanceTable_le {i e base : Nat} (h : distanceTable[i]? = some (e, base)) : base + 2 ^ e ≤ 32769 :=
  (by decide : ∀ p ∈ distanceTable, p.2 + 2 ^ p.1 ≤ 32769) _ (List.mem_of_getElem? h)

/-- Runs of the loop of DecodeSymbols. -/
abbrev DataRun : State → List Bool → State → Prop := LoopRun dataLoop State.outsideData

section
variable {ll dist : List Nat} {s : State} {rest : List Bool} {produced : Nat} (hr : s.readerOk)
  (hll : DecodesLengths s .ll ll) (hwindow : HoldsWindow produced s)
include hr hll hwindow

/-- A literal of a block's data. -/
theorem dataRun_of_literal {b : Byte} (hne : ll.getD b.toNat 0 ≠ 0)
    (hs : s.streamBits = (Token.literal b).bits ll dist ++ rest) :
    ∃ t, DataRun s ((Token.literal b).bits ll dist) t ∧ t.output = (Token.literal b).expand s.output ∧
      HoldsWindow (produced + 1) t := by
  obtain ⟨hwf, hcodes⟩ := hll
  have hsym : BitVec.ofNat 9 b.toNat = b.setWidth 9 := BitVec.ofNat_toNat 9 b
  obtain ⟨u, hkept, hrun⟩ := dataLoop_of_literal hr hwf hs (hsym ▸ hcodes _ hne)
  have hstay := eq_of_without State.outsideData hrun.frame rfl
  have houtput : u.output = s.output := eq_of_without State.output hkept rfl
  have hwindow' : HoldsWindow produced u := (eq_of_without (HoldsWindow produced) hkept rfl).mpr hwindow
  exact ⟨_, ⟨hrun.rounds, hrun.consumed, hstay⟩, by rw [append_output, houtput]; rfl, hwindow'.append b⟩

end

/-- A round of the loop after its length code (R226). -/
def afterLengthCode (fuel : Nat) (s : State) : Res Unit :=
  (decodeSymbol .dist s).bind fun sym s1 => (distSymbol sym.toNat s1).bind fun _ s2 => dataLoop fuel s2

/-- What a length code leaves as it is. -/
def State.outsideLengthCode (s : State) : State := (s.outsideSymbol .ll).setLoc { s.loc with length := 0 }

/-- The half of a back-reference that is its length. -/
theorem dataLoop_of_length {ll : List Nat} {s : State} {rest : List Bool} (hr : s.readerOk)
    (hll : DecodesLengths s .ll ll) {lc lx e base : Nat} (hlc : 257 ≤ lc) (hlc' : lc ≤ 285)
    (hentry : lengthTable[lc - 257]? = some (e, base)) (hne : ll.getD lc 0 ≠ 0) (hlx : lx < 2 ^ e)
    (hs : s.streamBits = codeWord ll lc ++ (numBits e lx ++ rest)) :
    ∃ t, (∀ fuel, dataLoop (fuel + 1) s = afterLengthCode fuel t) ∧ Consumed s (codeWord ll lc ++ numBits e lx) t ∧
      t.bitsLeft < s.bitsLeft ∧ t.streamBits = rest ∧ t.loc.length = base + lx ∧
      t.outsideLengthCode = s.outsideLengthCode := by
  obtain ⟨sym, u, hdecode, hsym, hcons, hrest, hkept⟩ := decodeSymbol_of_codeWord hr hll (by omega) hne hs
  obtain ⟨w, hcode, hcons', hrest', hkept'⟩ := lengthCode_consumed (base := base)
    (Nat.le_trans (lengthTable_extra hentry) (by decide)) hlx hcons.readerOk hrest
  refine ⟨w.setLoc { w.loc with length := base + lx }, fun fuel => ?_, hcons.trans hcons',
    Nat.lt_of_le_of_lt hcons'.bitsLeft_le (decodeSymbol_ok_bitsLeft hdecode), hrest', rfl,
    (eq_of_without State.outsideLengthCode hkept' rfl :).trans (eq_of_without State.outsideLengthCode hkept rfl)⟩
  rw [dataLoop, hdecode, Res.bind_ok, hsym, llSymbol_of_lengthEntry hlc hentry, hcode, Res.bind_ok, if_neg (by omega),
    if_neg (by omega)]
  rfl

/-- The half that is its distance, with the copy. -/
theorem afterLengthCode_of_distance {dist : List Nat} {s : State} {rest : List Bool} {produced : Nat} (hr : s.readerOk)
    (hdist : DecodesLengths s .dist dist) (hwindow : HoldsWindow produced s) {dc dx e base : Nat} (hdc : dc ≤ 29)
    (hentry : distanceTable[dc]? = some (e, base)) (hne : dist.getD dc 0 ≠ 0) (hdx : dx < 2 ^ e)
    (hnear : base + dx ≤ produced) (hs : s.streamBits = codeWord dist dc ++ (numBits e dx ++ rest)) :
    ∃ t, (∀ fuel, afterLengthCode fuel s = dataLoop fuel t) ∧ Consumed s (codeWord dist dc ++ numBits e dx) t ∧
      t.output = repeatBack (base + dx) s.loc.length s.output ∧ HoldsWindow (produced + s.loc.length) t ∧
      t.outsideData = s.outsideData := by
  obtain ⟨sym, u, hdecode, hsym, hcons, hrest, hkept⟩ := decodeSymbol_of_codeWord hr hdist (by omega) hne hs
  have hwindow' : HoldsWindow produced u := (eq_of_without (HoldsWindow produced) hkept rfl).mpr hwindow
  have hnear' : base + dx ≤ u.wfill.toNat := by
    have hle := distanceTable_le hentry
    rw [hwindow'.2]
    omega
  obtain ⟨w, hcode, hcons', hkept'⟩ := distanceCode_consumed (base := base)
    (Nat.le_trans (distanceTable_extra hentry) (by decide)) hdx hcons.readerOk hnear' hrest
  have hloc : u.loc = s.loc := eq_of_without State.loc hkept rfl
  have hout : w.output = s.output :=
    (eq_of_without State.output hkept' rfl).trans (eq_of_without State.output hkept rfl)
  have hfill : w.wfill = u.wfill := eq_of_without State.wfill hkept' rfl
  have hholds : HoldsWindow produced w := (eq_of_without (HoldsWindow produced) hkept' rfl).mpr hwindow'
  have hpos : 1 ≤ base + dx := Nat.le_trans (distanceTable_pos hentry) (Nat.le_add_right _ _)
  have hsymbol : distSymbol sym.toNat u = .ok () (copyBytes (base + dx) s.loc.length w) := by
    rw [hsym, distSymbol_of_entry hentry, hcode, hloc]
  have hstay := copyBytes_withoutWindow (base + dx) s.loc.length w
  refine ⟨copyBytes (base + dx) s.loc.length w, fun fuel => ?_,
    hcons.trans ((eq_of_without (Consumed u (numBits e dx)) hstay rfl).mpr hcons'), ?_, hholds.copyBytes _ _,
    ((distSymbol_ends _ u).of_ok hsymbol).trans (eq_of_without State.outsideData hkept rfl)⟩
  · rw [afterLengthCode, hdecode, Res.bind_ok, hsymbol, Res.bind_ok]
  · rw [copyBytes_output hpos _ hholds.1 (by rwa [hfill]), hout]

/-- A back-reference of a block's data. -/
theorem dataRun_of_copy {ll dist : List Nat} {s : State} {rest : List Bool} {produced : Nat} (hr : s.readerOk)
    (hll : DecodesLengths s .ll ll) (hwindow : HoldsWindow produced s) (hdist : DecodesLengths s .dist dist)
    {lc lx dc dx : Nat} (hlc : 257 ≤ lc) (hlc' : lc ≤ 285)
    (hdc : dc ≤ 29) (hne : ll.getD lc 0 ≠ 0) (hne' : dist.getD dc 0 ≠ 0) (hlx : lx < 2 ^ (lengthEntry lc).1)
    (hdx : dx < 2 ^ (distanceEntry dc).1) (hnear : (distanceEntry dc).2 + dx ≤ produced)
    (hs : s.streamBits = (Token.copy lc lx dc dx).bits ll dist ++ rest) :
    ∃ t, DataRun s ((Token.copy lc lx dc dx).bits ll dist) t ∧ t.output = (Token.copy lc lx dc dx).expand s.output ∧
      HoldsWindow (produced + (Token.copy lc lx dc dx).size) t := by
  rw [Token.bits, List.append_assoc] at hs ⊢
  rw [List.append_assoc, List.append_assoc] at hs
  obtain ⟨u, hround, hcons, hdrop, hrest, hlength, hkept⟩ :=
    dataLoop_of_length hr hll hlc hlc' (lengthTable_getElem?_entry hlc hlc') hne hlx hs
  have hdist' : DecodesLengths u .dist dist :=
    (eq_of_without (fun w => DecodesLengths w .dist dist) hkept rfl).mpr hdist
  have hwindow' : HoldsWindow produced u := (eq_of_without (HoldsWindow produced) hkept rfl).mpr hwindow
  have hout : u.output = s.output := eq_of_without State.output hkept rfl
  obtain ⟨t, hround', hcons', hout', hholds, hkept'⟩ := afterLengthCode_of_distance hcons.readerOk hdist' hwindow' hdc
    (distanceTable_getElem?_entry hdc) hne' hdx hnear hrest
  rw [hlength] at hout' hholds
  refine ⟨t, loopRun_of_round (fun fuel => (hround fuel).trans (hround' fuel))
    (Nat.lt_of_le_of_lt hcons'.bitsLeft_le hdrop) (hcons.trans hcons')
    (hkept'.trans (eq_of_without State.outsideData hkept rfl)), ?_, hholds⟩
  rw [hout', hout]
  rfl

/-- The data of a block up to its end. -/
theorem dataRun_of_tokens {ll dist : List Nat} (tokens : List Token) {s : State} {rest : List Bool} {produced : Nat}
    (hr : s.readerOk) (hll : DecodesLengths s .ll ll) (hdist : DecodesLengths s .dist dist)
    (hwindow : HoldsWindow produced s) (hok : tokensOk ll dist produced tokens = true)
    (hs : s.streamBits = tokens.flatMap (Token.bits ll dist) ++ rest) :
    ∃ t, DataRun s (tokens.flatMap (Token.bits ll dist)) t ∧ t.output = tokens.foldl Token.expand s.output ∧
      HoldsWindow (produced + (tokens.map Token.size).sum) t := by
  induction tokens generalizing s produced with
  | nil => exact ⟨s, loopRun_refl hr, rfl, hwindow⟩
  | cons tok tokens ih =>
    rw [List.flatMap_cons, List.append_assoc] at hs
    have hround : ∃ t, DataRun s (tok.bits ll dist) t ∧ t.output = tok.expand s.output ∧
        HoldsWindow (produced + tok.size) t ∧ tokensOk ll dist (produced + tok.size) tokens = true := by
      cases tok with
      | literal b =>
        simp only [tokensOk, Bool.and_eq_true, decide_eq_true_eq] at hok
        obtain ⟨hne, hok⟩ := hok
        obtain ⟨t, hrun, hout, hwindow'⟩ := dataRun_of_literal hr hll hwindow hne hs
        exact ⟨t, hrun, hout, hwindow', hok⟩
      | copy lc lx dc dx =>
        simp only [tokensOk, Bool.and_eq_true, decide_eq_true_eq] at hok
        obtain ⟨⟨⟨⟨⟨⟨⟨⟨hlc, hlc'⟩, hdc⟩, hne⟩, hne'⟩, hlx⟩, hdx⟩, hnear⟩, hok⟩ := hok
        obtain ⟨t, hrun, hout, hwindow'⟩ :=
          dataRun_of_copy hr hll hwindow hdist hlc hlc' hdc hne hne' hlx hdx hnear hs
        exact ⟨t, hrun, hout, hwindow', hok⟩
    obtain ⟨t, hrun, hout, hwindow', hok'⟩ := hround
    obtain ⟨u, hrun', hout', hwindow''⟩ := ih hrun.consumed.readerOk
      ((eq_of_without (fun w => DecodesLengths w .ll ll) hrun.frame rfl).mpr hll)
      ((eq_of_without (fun w => DecodesLengths w .dist dist) hrun.frame rfl).mpr hdist) hwindow' hok'
      (hrun.consumed.streamBits_eq hs)
    refine ⟨u, hrun.trans hrun', by rw [hout', hout, List.foldl_cons], ?_⟩
    rw [List.map_cons, List.sum_cons, ← Nat.add_assoc]
    exact hwindow''

/-- DecodeSymbols decodes the data of a block. -/
theorem decodeData_consumed {ll dist : List Nat} {tokens : List Token} {s : State} {rest : List Bool} {produced : Nat}
    (hr : s.readerOk) (hll : DecodesLengths s .ll ll) (hdist : DecodesLengths s .dist dist)
    (hwindow : HoldsWindow produced s) (hok : tokensOk ll dist produced tokens = true) (hend : ll.getD 256 0 ≠ 0)
    (hs : s.streamBits = tokens.flatMap (Token.bits ll dist) ++ (codeWord ll 256 ++ rest)) :
    ∃ u, decodeData s = .ok () u.blockDone ∧
      Consumed s (tokens.flatMap (Token.bits ll dist) ++ codeWord ll 256) u ∧ u.streamBits = rest ∧
      u.output = tokens.foldl Token.expand s.output ∧ HoldsWindow (produced + (tokens.map Token.size).sum) u ∧
      u.outsideData = (s.setPhase .decodeSymbols).outsideData := by
  obtain ⟨t, hrun, hout, hwindow'⟩ :=
    dataRun_of_tokens tokens (s := s.setPhase .decodeSymbols) hr hll hdist hwindow hok hs
  obtain ⟨hwf, hcodes⟩ : DecodesLengths t .ll ll :=
    (eq_of_without (fun w => DecodesLengths w .ll ll) hrun.frame rfl).mpr hll
  obtain ⟨u, hblock, hcons, hrest, hkept⟩ := dataLoop_of_endOfBlock hrun.consumed.readerOk hwf
    (hrun.consumed.streamBits_eq hs) (hcodes 256 hend)
  exact ⟨u, hrun.ends hblock, hrun.consumed.trans hcons, hrest, (eq_of_without State.output hkept rfl).trans hout,
    (eq_of_without (HoldsWindow _) hkept rfl).mpr hwindow',
    (eq_of_without State.outsideData hkept rfl).trans hrun.frame⟩

end Sys2Proof.Machine
end

section
/-! SUPPORT. A whole block from its bits, and a whole stream of blocks (R110 to R119, R211 to R238). -/

namespace Sys2Proof.Machine

/-! ### The parts of a block's bits (R111) -/

/-- The 17 bits of the header: BFINAL, block type 2 and the three counts. -/
def BlockText.headerBits (b : BlockText) : List Bool :=
  [b.bfinal, false, true] ++ numBits 5 (b.ll.length - 257) ++ numBits 5 (b.dist.length - 1) ++ numBits 4 (b.numCL - 4)

/-- The bits of the code-length alphabet. -/
def BlockText.alphabetBits (b : BlockText) : List Bool :=
  (perm.take b.numCL).flatMap fun i => numBits 3 (b.cl.getD i 0)

theorem BlockText.bits_eq (b : BlockText) : b.bits = b.headerBits ++ (b.alphabetBits ++
    b.items.flatMap (LengthItem.bits b.cl) ++ (b.tokens.flatMap (Token.bits b.ll b.dist) ++ codeWord b.ll 256)) := by
  simp only [BlockText.bits, BlockText.headerBits, BlockText.alphabetBits, List.append_assoc]

theorem BlockText.take_bits (b : BlockText) : b.bits.take 17 = b.headerBits := by
  rw [b.bits_eq]
  exact List.take_left' (by simp [BlockText.headerBits, numBits_length])

/-! ### The header (R213, R215) -/

/-- The number of the 17 bits of BHDR, by its fields (R34). -/
theorem toNat_eq_of_fields {x : BitVec 17} {a : Nat} {b1 b2 b3 : List Bool} (h1 : b1.length = 5) (h2 : b2.length = 5)
    (h0 : (x.extractLsb' 0 3).toNat = a) (hf1 : (x.extractLsb' 3 5).toNat = bitsValue b1)
    (hf2 : (x.extractLsb' 8 5).toNat = bitsValue b2) (hf3 : (x.extractLsb' 13 4).toNat = bitsValue b3) :
    x.toNat = a + 8 * bitsValue (b1 ++ b2 ++ b3) := by
  have hx := x.isLt
  rw [bitsValue_append, bitsValue_append, List.length_append, h1, h2, ← h0, ← hf1, ← hf2, ← hf3]
  simp only [BitVec.extractLsb'_toNat, Nat.shiftRight_eq_div_pow]
  omega

/-- What the header leaves of a block's counts. -/
def HasCounts (b : BlockText) (s : State) : Prop :=
  s.loc.numLL = b.ll.length ∧ s.loc.numDist = b.dist.length ∧ s.loc.numCL = b.numCL

/-- The header and the counts of a block. -/
theorem header_consumed {b : BlockText} {produced : Nat} (hok : b.ok produced) {s : State} {rest : List Bool}
    (hr : s.readerOk) (hs : s.streamBits = b.headerBits ++ rest) :
    ∃ s1 t, readHeader s = .ok 2 s1 ∧ blockType 2 s1 = .ok () t ∧ Consumed s b.headerBits t ∧ t.streamBits = rest ∧
      t.bhdr.toNat = bitsValue b.headerBits ∧ HasCounts b t ∧ t.outsideHeader = s.outsideHeader := by
  obtain ⟨hnumCL, hnumCL'⟩ := hok.numCL
  obtain ⟨hll, hll', -⟩ := hok.ll
  obtain ⟨hdist, hdist', -⟩ := hok.dist
  have hv1 : b.ll.length - 257 < 2 ^ 5 := by omega
  have hv2 : b.dist.length - 1 < 2 ^ 5 := by omega
  have hv3 : b.numCL - 4 < 2 ^ 4 := by omega
  have hb1 := numBits_length 5 (b.ll.length - 257)
  have hb2 := numBits_length 5 (b.dist.length - 1)
  have hb3 := numBits_length 4 (b.numCL - 4)
  simp only [BlockText.headerBits, List.append_assoc] at hs ⊢
  replace hs : s.streamBits = b.bfinal :: false :: true :: (numBits 5 (b.ll.length - 257) ++
      (numBits 5 (b.dist.length - 1) ++ (numBits 4 (b.numCL - 4) ++ rest))) := hs
  obtain ⟨s1, hheader, hcons, hrest, hbhdr, -, -, hkept⟩ := readHeader_consumed hr hs
  obtain ⟨t, hcounts, hcons', hrest', hbhdr', -, hloc, hkept'⟩ := readCounts_consumed hcons.readerOk hrest hb1 hb2 hb3
  obtain ⟨hlow, -⟩ := header_fields s b.bfinal false true
  have hbits := hcons.trans hcons'
  rw [List.append_assoc] at hbits
  have hlt1 : bitsValue (numBits 5 (b.ll.length - 257)) < 2 ^ 5 :=
    (bitsValue_numBits hv1).trans_lt hv1
  have hlt2 : bitsValue (numBits 5 (b.dist.length - 1)) < 2 ^ 5 :=
    (bitsValue_numBits hv2).trans_lt hv2
  have hlt3 : bitsValue (numBits 4 (b.numCL - 4)) < 2 ^ 4 :=
    (bitsValue_numBits hv3).trans_lt hv3
  refine ⟨s1, t, hheader, hcounts, hbits, hrest', ?_, ?_, hkept'.trans hkept⟩
  · rw [bitsValue_append, ← List.append_assoc]
    refine toNat_eq_of_fields hb1 hb2 ?_ ?_ ?_ ?_
    · rw [hbhdr', setBhdr_field_other _ (by decide) hlt3 (.inl (by decide)),
        setBhdr_field_other _ (by decide) hlt2 (.inl (by decide)),
        setBhdr_field_other _ (by decide) hlt1 (.inl (by decide)), hbhdr, hlow]
    · rw [hbhdr', setBhdr_field_other _ (by decide) hlt3 (.inl (by decide)),
        setBhdr_field_other _ (by decide) hlt2 (.inl (by decide)), setBhdr_field_same _ (by decide) hlt1]
    · rw [hbhdr', setBhdr_field_other _ (by decide) hlt3 (.inl (by decide)), setBhdr_field_same _ (by decide) hlt2]
    · rw [hbhdr', setBhdr_field_same _ (by decide) hlt3]
  · rw [HasCounts, hloc, bitsValue_numBits hv1, bitsValue_numBits hv2, bitsValue_numBits hv3]
    dsimp only
    omega

/-! ### The lengths and trees (R216 to R225) -/

/-- Without the code tables, the trees and PHASE: what the building of trees leaves as it is (R217, R225). -/
def State.withoutTables (s : State) : State :=
  { s with
    phase := .readBlockHeader
    codeCL := State.reset.codeCL, codeLL := State.reset.codeLL, codeDIST := State.reset.codeDIST
    treeCL := Tree.empty, treeLL := Tree.empty, treeDIST := Tree.empty }

theorem buildTree_withoutTables (s : State) (k : Sel) (t : Tree) :
    ((s.buildCodes k).setTree k t).withoutTables = s.withoutTables := by
  cases k <;> rfl

theorem DecodesLengths.buildTree_other {s : State} {j : Sel} {lens : List Nat} (h : DecodesLengths s j lens) {k : Sel}
    (hj : j ≠ k) (t : Tree) : DecodesLengths ((s.buildCodes k).setTree k t) j lens := by
  rw [DecodesLengths, setTree_tree_other _ _ _ _ hj, buildCodes_tree]
  exact h

theorem buildClTree_of_lengths {b : BlockText} {produced : Nat} (hok : b.ok produced) {s : State}
    (h : HasLengths s .cl b.cl) :
    ∃ t, buildClTree s = .ok () t ∧ DecodesLengths t .cl b.cl ∧ t.withoutTables = s.withoutTables := by
  obtain ⟨hlen, -, -, hkraft⟩ := hok.cl
  obtain ⟨t, hbuild, hdecodes⟩ := buildTree_of_lengths (s := s.setPhase .buildClTree) (k := .cl) (lens := b.cl) h
    (Nat.le_of_eq hlen) hkraft
  exact ⟨_, hbuild, hdecodes, buildTree_withoutTables (s.setPhase .buildClTree) .cl t⟩

theorem buildDataTrees_of_lengths {b : BlockText} {produced : Nat} (hok : b.ok produced) {s : State}
    (hll : HasLengths s .ll b.ll) (hdist : HasLengths s .dist b.dist) :
    ∃ t, buildDataTrees s = .ok () t ∧ DecodesLengths t .ll b.ll ∧ DecodesLengths t .dist b.dist ∧
      t.withoutTables = s.withoutTables := by
  obtain ⟨-, hle, hkraft, -⟩ := hok.ll
  obtain ⟨-, hle', hkraft'⟩ := hok.dist
  obtain ⟨t, hbuild, hdecodes⟩ := buildTree_of_lengths (s := s.setPhase .buildLLAndDistTrees) (k := .ll) (lens := b.ll)
    hll hle hkraft
  have hkept := buildTree_withoutTables (s.setPhase .buildLLAndDistTrees) .ll t
  generalize ((s.setPhase .buildLLAndDistTrees).buildCodes .ll).setTree .ll t = s1 at hbuild hdecodes hkept
  obtain ⟨u, hbuild', hdecodes'⟩ := buildTree_of_lengths (s := s1) (k := .dist) (lens := b.dist)
    ((eq_of_without (fun w => HasLengths w .dist b.dist) hkept rfl).mpr hdist) hle' hkraft'
  refine ⟨_, ?_, hdecodes.buildTree_other (by decide) u, hdecodes', (buildTree_withoutTables s1 .dist u).trans hkept⟩
  rw [buildDataTrees, hbuild, Res.bind_ok, hbuild']

/-- A block's lengths, of all three alphabets. -/
def HasBlockLengths (b : BlockText) (s : State) : Prop :=
  HasLengths s .cl b.cl ∧ HasLengths s .ll b.ll ∧ HasLengths s .dist b.dist

/-- The header register, the window and the output, which the lengths and trees leave as they are. -/
def State.headerAndWindow (s : State) : State :=
  { State.reset with
    bhdr := s.bhdr, win := s.win, wptr := s.wptr, wfill := s.wfill, outcnt := s.outcnt, output := s.output }

/-- The lengths of a block, and the trees built of them. -/
theorem lengths_consumed {b : BlockText} {produced : Nat} (hok : b.ok produced) {s : State} {rest : List Bool}
    (hr : s.readerOk) (hcounts : HasCounts b s)
    (hs : s.streamBits = b.alphabetBits ++ (b.items.flatMap (LengthItem.bits b.cl) ++ rest)) :
    ∃ s1 s2 s3 t, readClAlphabet s = .ok () s1 ∧ buildClTree s1 = .ok () s2 ∧ decodeLengths s2 = .ok () s3 ∧
      buildDataTrees s3 = .ok () t ∧
      Consumed s (b.alphabetBits ++ b.items.flatMap (LengthItem.bits b.cl)) t ∧ t.streamBits = rest ∧
      DecodesLengths t .ll b.ll ∧ DecodesLengths t .dist b.dist ∧ HasBlockLengths b t ∧
      t.headerAndWindow = s.headerAndWindow := by
  obtain ⟨hnumLL, hnumDist, hnumCL⟩ := hcounts
  obtain ⟨hcllen, hcl7, hzero, -⟩ := hok.cl
  obtain ⟨-, hll', -⟩ := hok.ll
  obtain ⟨-, hdist', -⟩ := hok.dist
  rw [BlockText.alphabetBits, ← hnumCL] at hs ⊢
  rw [← hnumCL] at hzero
  obtain ⟨s1, halphabet, hcons1, hrest1, hcl, hkept1⟩ := readClAlphabet_consumed hcllen hcl7 hzero hr hs
  obtain ⟨s2, hbuild, hdecodes, hkept2⟩ := buildClTree_of_lengths hok hcl
  have hr2 : s2.readerOk := (eq_of_without State.readerOk hkept2 rfl).mpr hcons1.readerOk
  have hrest2 : s2.streamBits = _ := (eq_of_without State.streamBits hkept2 rfl).trans hrest1
  have hcounts2 : s2.loc = s.loc := (eq_of_without State.loc hkept2 rfl).trans (eq_of_without State.loc hkept1 rfl)
  obtain ⟨s3, hlengths, hcons3, hrest3, hll, hdist, hkept3⟩ := decodeLengths_consumed hok.items hr2 hdecodes
    (by rw [hcounts2, hnumLL]) (by rw [hcounts2, hnumDist]) hll' hdist' hok.sequence hrest2
  have hcl3 : HasLengths s3 .cl b.cl := (eq_of_without (fun w => HasLengths w .cl b.cl) hkept3 rfl).mpr
    ((eq_of_without (fun w => HasLengths w .cl b.cl) hkept2 rfl).mpr hcl)
  obtain ⟨t, htrees, hdecodesll, hdecodesdist, hkept⟩ := buildDataTrees_of_lengths hok hll hdist
  have hcons2 : Consumed s _ s2 := (eq_of_without (Consumed s _) hkept2 rfl).mpr hcons1
  have hcons : Consumed s2 _ t := (eq_of_without (Consumed s2 _) hkept rfl).mpr hcons3
  refine ⟨s1, s2, s3, t, halphabet, hbuild, hlengths, htrees, hcons2.trans hcons,
    (eq_of_without State.streamBits hkept rfl).trans hrest3, hdecodesll, hdecodesdist,
    (eq_of_without (HasBlockLengths b) hkept rfl).mpr ⟨hcl3, hll, hdist⟩, ?_⟩
  calc t.headerAndWindow = s3.headerAndWindow := eq_of_without State.headerAndWindow hkept rfl
    _ = s2.headerAndWindow := (eq_of_without State.headerAndWindow hkept3 rfl :)
    _ = s1.headerAndWindow := eq_of_without State.headerAndWindow hkept2 rfl
    _ = s.headerAndWindow := eq_of_without State.headerAndWindow hkept1 rfl

/-! ### A block (R211, R212, R236) -/

/-- `t` is `s` after the block `b`, where `produced` bytes of the stream came before it. -/
structure BlockDecoded (b : BlockText) (produced : Nat) (s t : State) : Prop where
  consumed : Consumed s b.bits t
  output : t.output = b.tokens.foldl Token.expand s.output
  window : HoldsWindow (produced + (b.tokens.map Token.size).sum) t
  bhdr : t.bhdr.toNat = bitsValue (b.bits.take 17)
  lengths : HasBlockLengths b t
  ended : ∃ u : State, t = u.blockDone ∧ InBlock s.outsideBlock u

theorem decodeBlock_consumed {b : BlockText} {produced : Nat} (hok : b.ok produced) {s : State} {rest : List Bool}
    (hr : s.readerOk) (hwindow : HoldsWindow produced s) (hs : s.streamBits = b.bits ++ rest) :
    ∃ t, decodeBlock s = .ok () t ∧ BlockDecoded b produced s t := by
  obtain ⟨-, -, -, hend⟩ := hok.ll
  rw [b.bits_eq, List.append_assoc, List.append_assoc, List.append_assoc] at hs
  obtain ⟨s1, s2, hheader, htype, hcons2, hrest2, hbhdr2, hcounts, hkept2⟩ := header_consumed hok hr hs
  obtain ⟨s3, s4, s5, s6, halphabet, hcl, hlengths, htrees, hcons6, hrest6, hll, hdist, hlens, hkept6⟩ :=
    lengths_consumed hok hcons2.readerOk hcounts hrest2
  have hwindow6 : HoldsWindow produced s6 := (eq_of_without (HoldsWindow produced) hkept6 rfl).mpr
    ((eq_of_without (HoldsWindow produced) hkept2 rfl).mpr hwindow)
  have hout6 : s6.output = s.output :=
    (eq_of_without State.output hkept6 rfl).trans (eq_of_without State.output hkept2 rfl)
  rw [List.append_assoc] at hrest6
  obtain ⟨u, hdata, hcons, hrest, hout, hwindow', hkeptu⟩ :=
    decodeData_consumed hcons6.readerOk hll hdist hwindow6 hok.tokens hend hrest6
  have hblock : decodeBlock s = .ok () u.blockDone := by
    rw [decodeBlock, hheader, Res.bind_ok, htype, Res.bind_ok, halphabet, Res.bind_ok, hcl, Res.bind_ok, hlengths,
      Res.bind_ok, htrees, Res.bind_ok, hdata]
  have hbhdr : u.bhdr = s2.bhdr :=
    (eq_of_without State.bhdr hkeptu rfl :).trans (eq_of_without State.bhdr hkept6 rfl :)
  refine ⟨_, hblock, ?_, ?_, hwindow', ?_, ?_, (decodeBlock_ends s).of_ok hblock⟩
  · rw [b.bits_eq]
    exact hcons2.trans (hcons6.trans hcons)
  · rw [← hout6]
    exact hout
  · rw [b.take_bits, ← hbhdr2, ← hbhdr]
    rfl
  · exact (eq_of_without (HasBlockLengths b) hkeptu rfl).mpr hlens

/-- The session after a block: DONE exactly when it was the last. -/
theorem BlockDecoded.sstate {b : BlockText} {produced : Nat} {s t : State} (h : BlockDecoded b produced s t)
    (hready : s.sstate = .ready) : t.sstate = if b.bfinal then .done else .ready := by
  obtain ⟨u, rfl, hu⟩ := h.ended
  have hbit : u.bhdr.getLsbD 0 = b.bfinal := by
    have hbhdr : u.bhdr.toNat = bitsValue (b.bits.take 17) := h.bhdr
    rw [b.take_bits] at hbhdr
    have hparity : u.bhdr.toNat % 2 = b.bfinal.toNat := by
      have hle := b.bfinal.toNat_le
      rw [hbhdr, BlockText.headerBits, List.append_assoc, List.append_assoc, List.cons_append, bitsValue]
      omega
    rw [BitVec.getLsbD, Nat.testBit_zero, hparity]
    cases b.bfinal <;> rfl
  rw [blockDone_sstate_of_inBlock hready hu, hbit]

/-- Settles O46: the block is decoded from its bits. -/
theorem dblkDecodesBlock : Obligations.DblkDecodesBlock := by
  unfold Obligations.DblkDecodesBlock
  intro s b rest hready hr hwindow hok hs
  obtain ⟨t, hblock, hdecoded⟩ := decodeBlock_consumed hok hr (holdsWindow_wfill hwindow) hs
  have hsstate := hdecoded.sstate hready
  obtain ⟨hcons, hout, -, hbhdr, ⟨hcl, hll, hdist⟩, u, rfl, hu, -⟩ := hdecoded
  have hcount : u.blkcnt = s.blkcnt := eq_of_without State.blkcnt hu rfl
  rw [exec_dblk_of_ready hready, hblock]
  exact ⟨_, rfl, hout, rfl, hbhdr, hcons.streamBits_eq hs, hcons.bitpos_eq, congrArg (· + 1) hcount, hsstate, rfl,
    fun i => ⟨hcl i, hll i, hdist i⟩, (eq_of_without State.errCode hu rfl :), (eq_of_without State.cmds hu rfl :),
    (eq_of_without State.staged hu rfl :), rfl⟩

/-! ### A stream of blocks (R110, R237) -/

/-- `t` is `s` after these blocks, the last of them with BFINAL. -/
structure StreamDecoded (bs : List BlockText) (s t : State) : Prop where
  consumed : Consumed s (bs.flatMap BlockText.bits) t
  output : t.output = (bs.flatMap BlockText.tokens).foldl Token.expand s.output
  blkcnt : t.blkcnt = s.blkcnt + BitVec.ofNat 32 bs.length
  sstate : t.sstate = .done
  errCode : t.errCode = s.errCode
  cmds : t.cmds = s.cmds
  staged : t.staged = s.staged

/-- One block and then the rest of them. -/
theorem BlockDecoded.cons {b : BlockText} {produced : Nat} {bs : List BlockText} {s t u : State}
    (h : BlockDecoded b produced s t) (hbs : StreamDecoded bs t u) : StreamDecoded (b :: bs) s u := by
  obtain ⟨v, rfl, hv, -⟩ := h.ended
  have hcount : v.blkcnt = s.blkcnt := eq_of_without State.blkcnt hv rfl
  refine ⟨h.consumed.trans hbs.consumed, ?_, ?_, hbs.sstate, hbs.errCode.trans (eq_of_without State.errCode hv rfl :),
    hbs.cmds.trans (eq_of_without State.cmds hv rfl :), hbs.staged.trans (eq_of_without State.staged hv rfl :)⟩
  · rw [hbs.output, h.output, List.flatMap_cons, List.foldl_append]
  · have hnext : v.blockDone.blkcnt = s.blkcnt + 1 := congrArg (· + 1) hcount
    rw [hbs.blkcnt, hnext, BitVec.add_assoc, List.length_cons, Nat.add_comm, BitVec.ofNat_add]
    rfl

/-- The last block alone. -/
theorem BlockDecoded.streamDecoded {b : BlockText} {produced : Nat} {s t : State} (h : BlockDecoded b produced s t)
    (hready : s.sstate = .ready) (hlast : b.bfinal = true) : StreamDecoded [b] s t := by
  have hdone := h.sstate hready
  rw [hlast] at hdone
  exact h.cons ⟨consumed_nil h.consumed.readerOk, rfl, by simp, hdone, rfl, rfl, rfl⟩

/-- The stream loop decodes a stream of blocks, whatever the fuel above the bits left. -/
theorem streamLoop_consumed {bs : List BlockText} {produced : Nat} {s : State} {rest : List Bool}
    (hready : s.sstate = .ready) (hr : s.readerOk) (hwindow : HoldsWindow produced s) (hok : streamOk produced bs)
    (hs : s.streamBits = bs.flatMap BlockText.bits ++ rest) :
    ∃ t, (∀ fuel, s.bitsLeft < fuel → streamLoop fuel s = .ok () t) ∧ StreamDecoded bs s t := by
  induction bs generalizing produced s with
  | nil => exact hok.elim
  | cons b bs ih =>
    have hblock : b.ok produced := by
      cases bs with
      | nil =>
        obtain ⟨-, hblock⟩ := hok
        exact hblock
      | cons c cs =>
        obtain ⟨-, hblock, -⟩ := hok
        exact hblock
    rw [List.flatMap_cons, List.append_assoc] at hs
    obtain ⟨t, hdecode, hdecoded⟩ := decodeBlock_consumed hblock hr hwindow hs
    have hdrop := decodeBlock_ok_bitsLeft hdecode
    have hround : ∀ fuel, streamLoop (fuel + 1) s = streamLoop fuel t := fun fuel => by
      rw [streamLoop, hready]
      exact congrArg (Res.bind · fun _ s1 => streamLoop fuel s1) hdecode
    have hsstate := hdecoded.sstate hready
    cases bs with
    | nil =>
      obtain ⟨hlast, -⟩ := hok
      have hstream := hdecoded.streamDecoded hready hlast
      refine ⟨t, fun fuel hfuel => ?_, hstream⟩
      obtain ⟨fuel, rfl⟩ : ∃ n, fuel = n + 2 := ⟨fuel - 2, by omega⟩
      rw [hround, streamLoop, hstream.sstate]
    | cons c cs =>
      obtain ⟨hmore, -, hokrest⟩ := hok
      rw [hmore] at hsstate
      obtain ⟨u, hloop, hstream⟩ := ih hsstate hdecoded.consumed.readerOk hdecoded.window hokrest
        (hdecoded.consumed.streamBits_eq hs)
      refine ⟨u, fun fuel hfuel => ?_, hdecoded.cons hstream⟩
      obtain ⟨fuel, rfl⟩ : ∃ n, fuel = n + 1 := ⟨fuel - 1, by omega⟩
      rw [hround, hloop fuel (by omega)]

/-- Settles O47: the blocks one by one. -/
theorem dstrDecodesStream : Obligations.DstrDecodesStream := by
  unfold Obligations.DstrDecodesStream
  intro s bs rest hready hr hwindow hok hs
  obtain ⟨t, hloop, hstream⟩ := streamLoop_consumed hready hr (holdsWindow_wfill hwindow) hok hs
  rw [exec_dstr_of_ready hready, hloop _ (Nat.lt_succ_self _)]
  exact ⟨_, rfl, hstream.output, rfl, hstream.blkcnt, hstream.consumed.streamBits_eq hs, hstream.consumed.bitpos_eq,
    hstream.sstate, hstream.errCode, hstream.cmds, hstream.staged, rfl⟩

end Sys2Proof.Machine
end

section
/-! SUPPORT. The control command NOP (R261). -/

namespace Sys2Proof.Machine

/-- NOP looks at no part of the state, the session state included: it only answers. -/
theorem exec_nop (s : State) : exec .nop s = .next (s.respond .ok 0) := by
  show execNop s = _
  simp only [execNop, answer]

/-- Settles O9: NOP is one response, and a response writes the answer on the command port alone. -/
theorem nopOnlyAnswers : Obligations.NopOnlyAnswers := by
  unfold Obligations.NopOnlyAnswers
  intro s
  rw [exec_nop, State.respond]

end Sys2Proof.Machine
end

section
/-! SUPPORT. The reserved opcode (R102, R286). -/

namespace Sys2Proof.Machine

theorem exec_reservedOp (low : BitVec 28) (s : State) :
    exec (.reservedOp low) s = .next (s.respond .illegalCommand 0) := by
  show execReservedOp low s = _
  simp only [execReservedOp, refuse]

/-- The opcode 0xF alone makes a word the reserved command, with its other bits (R102). -/
theorem decode_of_opcode_reserved {w : Word} (h : w.extractLsb' 28 4 = 0xF) :
    decode (.command w) = .ok (.reservedOp (w.extractLsb' 0 28)) := by
  rw [decode_of_masked (r := opcodeMap[15]) (by decide) (masked_of_opcode_reserved h)]
  rfl

/-- Settles O4: no word of the opcode has a reserved bit, so each decodes to the reserved command, which refuses
without a look at the state. -/
theorem reservedOpcodeIllegalCommand : Obligations.ReservedOpcodeIllegalCommand := by
  unfold Obligations.ReservedOpcodeIllegalCommand
  refine ⟨fun s low => exec_reservedOp low s, fun s w rest hs hc hop => ?_⟩
  rw [step_of_decode (nextCode_of_word hs hc) (decode_of_opcode_reserved hop), exec_reservedOp]

end Sys2Proof.Machine
end

section
/-! SUPPORT. The errors of a block: a tree built of the code-length alphabet decodes none but its symbols, so that the
check on a symbol above 18 never fails in a block (R224, R290); and how a stream of blocks ends (R237). -/

namespace Sys2Proof.Machine

/-! ### The symbols DecodeSymbol gives (R190, R192) -/

theorem codeOf_of_nodes_eq {t u : Tree} (h : u.nodes = t.nodes) {bits : List Bool} {sym : BitVec 9} :
    u.codeOf bits sym ↔ t.codeOf bits sym := by
  simp only [Tree.codeOf, Tree.leafAt, walk_of_nodes_eq h, node_of_nodes_eq h]

/-- An advance that is not Invalid moves the cursor to the child, and a symbol is the child's (R190). -/
theorem advance_to_child {t u : Tree} {b : Bool} {r : Advance} (h : t.advance b = (r, u)) (hr : r ≠ .invalid) :
    ∃ c, (t.node t.cur).child b = some c ∧ u = { t with cur := c } ∧ ∀ sym, r = .symbol sym → t.leafAt c sym := by
  simp only [Tree.advance] at h
  split at h
  case h_1 =>
    cases h
    exact absurd rfl hr
  case h_2 c hchild =>
    refine ⟨c, hchild, ?_⟩
    split at h <;> cases h
    case h_1 hleaf =>
      refine ⟨rfl, fun sym hsym => ?_⟩
      cases hsym
      exact hleaf
    case h_2 => exact ⟨rfl, nofun⟩

/-- From the end of a path a decode goes on along a path, and what it gives is the symbol of that path's code. -/
theorem decodeBits_codeOf {k : Sel} {fuel : Nat} {s t : State} {sym : BitVec 9} {bits : List Bool}
    (hpath : (s.tree k).walk 0 bits = some (s.tree k).cur) (h : decodeBits k fuel s = .ok sym t) :
    ∃ word, (s.tree k).codeOf word sym := by
  induction fuel generalizing s bits with
  | zero => cases h
  | succ fuel ih =>
    obtain ⟨b, s1, hread, hround⟩ := Res.bind_eq_ok h
    have htree : s1.tree k = s.tree k :=
      eq_of_without (fun u => u.tree k) ((readBits_ends 1 s).of_ok hread) (by cases k <;> rfl)
    rw [htree] at hround
    split at hround
    case h_1 old u hadv =>
      cases hround
      obtain ⟨c, hchild, -, hleaf⟩ := advance_to_child hadv nofun
      exact ⟨bits ++ [b == 1], c, walk_concat_iff.mpr ⟨_, hpath, hchild⟩, hleaf _ rfl⟩
    case h_2 u hadv =>
      obtain ⟨c, hchild, rfl, -⟩ := advance_to_child hadv nofun
      have hnodes : (({ s.tree k with cur := c } : Tree)).nodes = (s.tree k).nodes := rfl
      have hmoved := ih (bits := bits ++ [b == 1])
        (by rw [setTree_tree_same, walk_of_nodes_eq hnodes]; exact walk_concat_iff.mpr ⟨_, hpath, hchild⟩) hround
      rw [setTree_tree_same] at hmoved
      exact hmoved.imp fun word hword => (codeOf_of_nodes_eq hnodes).mp hword
    case h_3 => cases hround

/-- A symbol that DecodeSymbol gives has a code in the tree (R192). -/
theorem decodeSymbol_codeOf {k : Sel} {s t : State} {sym : BitVec 9} (h : decodeSymbol k s = .ok sym t) :
    ∃ word, (s.tree k).resetCursor.codeOf word sym := by
  have hcode := decodeBits_codeOf (bits := []) (by rw [setTree_tree_same]; rfl) h
  rwa [setTree_tree_same] at hcode

/-- A build that completes from an alphabet's lengths decodes none but the alphabet's symbols (R187). -/
theorem builtTo_of_buildCodes {s : State} {k : Sel} {t : Tree}
    (h : Tree.build (Config.nodecap k) ((s.buildCodes k).codes k) 0 Tree.empty = (none, t)) :
    BuiltTo (s.buildCodes k) k (Config.asize k) t := by
  have hlen := buildCodes_clen_le s k
  have hok : ∀ i, i < Config.asize k → ¬ (s.buildCodes k).codeFails k i := fun i hi hfails => by
    have hviolation := build_violation hlen hi hfails
    rw [h] at hviolation
    cases hviolation
  obtain ⟨u, hu, hbuild⟩ := build_completes hlen hok
  cases hbuild.symm.trans h
  exact hu

/-- No code of the code-length tree is that of a symbol above 18, wherever the cursor is. -/
def ClSymbolsOk (s : State) : Prop := ∀ word sym, s.treeCL.resetCursor.codeOf word sym → sym.toNat ≤ 18

theorem clSymbolsOk_of_buildTree {s t : State} (h : buildTree .cl (s.buildCodes .cl) = .ok () t) : ClSymbolsOk t := by
  obtain ⟨u, hbuild, rfl⟩ := (buildTree_ends .cl s).of_ok h
  intro word sym hcode
  obtain ⟨i, hi, -, -, rfl⟩ := ((builtTo_of_buildCodes hbuild).decodes word sym).mp (codeOf_resetCursor.mp hcode)
  have hlt : i < 19 := hi
  rw [BitVec.toNat_ofNat]
  omega

theorem ClSymbolsOk.of_outsideLengths {s t : State} (h : ClSymbolsOk s) (ht : t.outsideLengths = s.outsideLengths) :
    ClSymbolsOk t := by
  have htree : t.treeCL.resetCursor = s.treeCL.resetCursor := eq_of_without (fun u => u.treeCL.resetCursor) ht rfl
  rwa [ClSymbolsOk, htree]

/-! ### InvalidCodeLengthSymbol is not raised (R224, R290) -/

/-- What a piece raises, if it raises, is not this error. -/
def Res.Avoids {α : Type} (e : Status) : Res α → Prop
  | .ok _ _ => True
  | .err e' _ => e' ≠ e
  | .stuck => True

theorem Avoids_bind {α β : Type} {e : Status} {r : Res α} {f : α → State → Res β} (hr : r.Avoids e)
    (hf : ∀ a t, r = .ok a t → (f a t).Avoids e) : (r.bind f).Avoids e := by
  cases r with
  | ok a t => exact hf a t rfl
  | err e' t => exact hr
  | stuck => trivial

/-- A read raises the end of the input alone (R143). -/
theorem readBits_avoids (n : Nat) (s : State) : (readBits n false s).Avoids .invalidCodeLengthSymbol := by
  cases hread : readBits n false s with
  | ok v t => trivial
  | err e t =>
    rw [readBits_eq_err hread]
    exact nofun
  | stuck => trivial

theorem decodeBits_avoids (k : Sel) (fuel : Nat) (s : State) :
    (decodeBits k fuel s).Avoids .invalidCodeLengthSymbol := by
  induction fuel generalizing s with
  | zero => trivial
  | succ fuel ih =>
    refine Avoids_bind (readBits_avoids 1 s) fun b s1 _ => ?_
    split
    · trivial
    · exact ih _
    · exact nofun

theorem decodeSymbol_avoids (k : Sel) (s : State) : (decodeSymbol k s).Avoids .invalidCodeLengthSymbol :=
  decodeBits_avoids k _ _

/-- The errors that stop a build (R187). -/
theorem build_error {cap : Nat} {es : List CodeEntry} {i : Nat} {t : Tree} {e : Status}
    (h : (Tree.build cap es i t).1 = some e) : e = .prefixCodeViolation ∨ e = .treeCapacityExceeded := by
  induction es generalizing i t with
  | nil => cases h
  | cons c rest ih =>
    simp only [Tree.build] at h
    split at h
    case isTrue => exact ih h
    case isFalse =>
      split at h
      case isTrue =>
        cases h
        exact .inl rfl
      case isFalse =>
        split at h
        case h_1 => exact ih h
        case h_2 =>
          cases h
          exact .inr rfl
        all_goals
          cases h
          exact .inl rfl

theorem buildTree_avoids (k : Sel) (s : State) : (buildTree k s).Avoids .invalidCodeLengthSymbol := by
  simp only [buildTree]
  split
  case h_1 => trivial
  case h_2 e t hbuild =>
    rcases build_error (congrArg Prod.fst hbuild) with rfl | rfl <;> exact nofun

theorem repeatLast_avoids (n : Nat) (s : State) : (repeatLast n s).Avoids .invalidCodeLengthSymbol := by
  simp only [repeatLast]
  split
  · exact nofun
  · trivial

/-- The check on a code-length symbol fails with InvalidCodeLengthSymbol above 18 (R224). -/
theorem clSymbol_of_gt {v : Nat} (hv : 18 < v) (s : State) : clSymbol v s = .err .invalidCodeLengthSymbol s := by
  rw [clSymbol, if_neg (by omega), if_neg (by omega), if_neg (by omega), if_neg (by omega)]

/-- Up to 18 it does not. -/
theorem clSymbol_avoids {v : Nat} (hv : v ≤ 18) (s : State) : (clSymbol v s).Avoids .invalidCodeLengthSymbol := by
  have hrepeat : ∀ (n : Nat) (f : Nat → Nat) (g : State → State),
      ((readBits n false s).bind fun x s1 => repeatLast (f x) (g s1)).Avoids .invalidCodeLengthSymbol := fun n f g =>
    Avoids_bind (readBits_avoids n s) fun _ _ _ => repeatLast_avoids _ _
  simp only [clSymbol]
  split
  · trivial
  · split
    · exact hrepeat 2 (3 + ·) id
    · split
      · exact hrepeat 3 (3 + ·) (setLastLength 0)
      · split
        · exact hrepeat 7 (11 + ·) (setLastLength 0)
        · omega

theorem llSymbol_avoids (v : Nat) (s : State) : (llSymbol v s).Avoids .invalidCodeLengthSymbol := by
  simp only [llSymbol]
  split
  · trivial
  · split
    · trivial
    · split
      · exact Avoids_bind (readBits_avoids _ s) fun _ _ _ => trivial
      · exact nofun

theorem distSymbol_avoids (v : Nat) (s : State) : (distSymbol v s).Avoids .invalidCodeLengthSymbol := by
  simp only [distSymbol]
  split
  · refine Avoids_bind (readBits_avoids _ s) fun x s1 _ => ?_
    split
    · exact nofun
    · trivial
  · exact nofun

theorem blockType_avoids (v : Nat) (s : State) : (blockType v s).Avoids .invalidCodeLengthSymbol := by
  simp only [blockType]
  split
  · exact Avoids_bind (readBits_avoids 5 _) fun _ _ _ =>
      Avoids_bind (readBits_avoids 5 _) fun _ _ _ =>
        Avoids_bind (readBits_avoids 4 _) fun _ _ _ => trivial
  · exact nofun

theorem readHeader_avoids (s : State) : (readHeader s).Avoids .invalidCodeLengthSymbol :=
  Avoids_bind (readBits_avoids 1 _) fun _ _ _ =>
    Avoids_bind (readBits_avoids 2 _) fun _ _ _ => trivial

theorem readClLengths_avoids (syms : List Nat) (s : State) :
    (readClLengths syms s).Avoids .invalidCodeLengthSymbol := by
  induction syms generalizing s with
  | nil => trivial
  | cons sym rest ih => exact Avoids_bind (readBits_avoids 3 s) fun _ _ _ => ih _

/-- The tree gives the loop no symbol above 18, and the loop leaves the tree as it is (R218, R290). -/
theorem lengthLoop_avoids (fuel : Nat) {s : State} (h : ClSymbolsOk s) :
    (lengthLoop fuel s).Avoids .invalidCodeLengthSymbol := by
  induction fuel generalizing s with
  | zero => trivial
  | succ fuel ih =>
    simp only [lengthLoop]
    split
    · refine Avoids_bind (decodeSymbol_avoids .cl s) fun sym s1 hdecode => ?_
      obtain ⟨word, hcode⟩ := decodeSymbol_codeOf hdecode
      have h1 := h.of_outsideLengths (eq_of_without State.outsideLengths ((decodeSymbol_ends .cl s).of_ok hdecode) rfl)
      refine Avoids_bind (clSymbol_avoids (h word sym hcode) s1) fun _ s2 hsymbol => ?_
      exact ih (h1.of_outsideLengths ((clSymbol_ends _ s1).of_ok hsymbol))
    · trivial

theorem dataLoop_avoids (fuel : Nat) (s : State) : (dataLoop fuel s).Avoids .invalidCodeLengthSymbol := by
  induction fuel generalizing s with
  | zero => trivial
  | succ fuel ih =>
    refine Avoids_bind (decodeSymbol_avoids .ll s) fun _ _ _ => Avoids_bind (llSymbol_avoids _ _) fun _ _ _ => ?_
    split
    · trivial
    · split
      · exact ih _
      · exact Avoids_bind (decodeSymbol_avoids .dist _) fun _ _ _ =>
          Avoids_bind (distSymbol_avoids _ _) fun _ _ _ => ih _

/-- A block builds its code-length tree before it decodes with it, so that the check on the symbols never fails. -/
theorem decodeBlock_avoids (s : State) : (decodeBlock s).Avoids .invalidCodeLengthSymbol := by
  refine Avoids_bind (readHeader_avoids s) fun _ _ _ => Avoids_bind (blockType_avoids _ _) fun _ _ _ => ?_
  refine Avoids_bind (readClLengths_avoids _ _) fun _ s3 _ => Avoids_bind (buildTree_avoids _ _) fun _ s4 hbuild => ?_
  have hcl : ClSymbolsOk s4 := clSymbolsOk_of_buildTree (s := s3.setPhase .buildClTree) hbuild
  have hstart : ClSymbolsOk (startLengths s4) := hcl
  refine Avoids_bind (lengthLoop_avoids _ hstart) fun _ _ _ => ?_
  refine Avoids_bind ?_ fun _ _ _ => dataLoop_avoids _ _
  exact Avoids_bind (buildTree_avoids _ _) fun _ _ _ => buildTree_avoids _ _

theorem streamLoop_avoids (fuel : Nat) (s : State) : (streamLoop fuel s).Avoids .invalidCodeLengthSymbol := by
  induction fuel generalizing s with
  | zero => trivial
  | succ fuel ih =>
    simp only [streamLoop]
    split
    · exact Avoids_bind (decodeBlock_avoids s) fun _ _ _ => ih _
    all_goals trivial

/-! ### How a stream ends (R237) -/

/-- The session state between the blocks of a stream: READY, or DONE after a last block (R236). -/
def BetweenBlocks (s : State) : Prop := s.sstate = .ready ∨ (s.sstate = .done ∧ s.bhdr.getLsbD 0 = true)

/-- A block leaves DONE exactly when it is the last one (R236, R288). -/
theorem decodeBlock_ok_sstate {s t : State} (hs : s.sstate = .ready) (h : decodeBlock s = .ok () t) :
    t.sstate = if t.bhdr.getLsbD 0 then .done else .ready := by
  obtain ⟨u, rfl, hu⟩ := (decodeBlock_ends s).of_ok h
  exact blockDone_sstate_of_inBlock hs hu

/-- A stream ends in DONE after its last block, or with a stream error (R237). -/
theorem streamLoop_ends (fuel : Nat) {s : State} (h : BetweenBlocks s) :
    (streamLoop fuel s).Ends (fun t => t.sstate = .done ∧ t.bhdr.getLsbD 0 = true) fun _ => True := by
  induction fuel generalizing s with
  | zero => trivial
  | succ fuel ih =>
    rcases h with hready | hdone
    · simp only [streamLoop, hready]
      refine (decodeBlock_ends s).bind (fun _ _ => trivial) fun _ t hblock _ => ih ?_
      have hstate := decodeBlock_ok_sstate hready hblock
      split at hstate
      case isTrue hlast => exact .inr ⟨hstate, hlast⟩
      case isFalse => exact .inl hstate
    · simp only [streamLoop, hdone.1]
      exact hdone

end Sys2Proof.Machine
end

section
/-! SUPPORT. How a step that takes a command word ends: with a new session, with an answer that latches nothing, or with
a read or blocks that go on or latch their error; and from it the moves of the session state and the statuses (R281 to
R290). -/

namespace Sys2Proof.Machine

/-! ### Answers that latch nothing (R284) -/

/-- What a word may answer with nothing latched: OK with a result, or one of the errors of R284 with result 0, where a
tree command alone raises an error of a tree. -/
inductive Unlatched (d : Except DecodeReject Instr) : Status → Word → Prop
  | ok (r : Word) : Unlatched d .ok r
  | illegalCommand : Unlatched d .illegalCommand 0
  | illegalOperand : Unlatched d .illegalOperand 0
  | sessionFaulted : Unlatched d .sessionFaulted 0
  | streamFinished : Unlatched d .streamFinished 0
  | treeCapacityExceeded (h : (∃ sel sym mk, d = .ok (.tins sel sym mk)) ∨ ∃ sel, d = .ok (.tbld sel)) :
      Unlatched d .treeCapacityExceeded 0
  | prefixCodeViolation (h : ∃ sel, d = .ok (.tbld sel)) : Unlatched d .prefixCodeViolation 0

/-- Where the outcome is a next state, its answer satisfies a property. -/
def Replies (P : Status → Word → Prop) : Host.Outcome State Fault Refusal → Prop :=
  Leads fun t => ∃ e r, t.resp = some { status := e, result := r } ∧ P e r

theorem Replies_respond {P : Status → Word → Prop} {e : Status} {r : Word} (h : P e r) (s : State) :
    Replies P (.next (s.respond e r)) :=
  ⟨e, r, rfl, h⟩

theorem Replies_answer {d : Except DecodeReject Instr} (r : Word) (s : State) : Replies (Unlatched d) (answer r s) :=
  Replies_respond (.ok r) s

theorem Replies_illegalOperand {d : Except DecodeReject Instr} (s : State) :
    Replies (Unlatched d) (refuse .illegalOperand s) :=
  Replies_respond .illegalOperand s

/-- The commands but BRD, DBLK and DSTR latch nothing, and raise no error of a session or a stream (R284). -/
theorem command_replies {i : Instr} {w : Word} (hi : encode i = .command w) (hdblk : i ≠ .dblk) (hdstr : i ≠ .dstr)
    (hbrd : ∀ keep n, i ≠ .brd keep n) (s : State) : Replies (Unlatched (.ok i)) (exec i s) := by
  cases i with
  | nop | srst => exact Replies_answer _ _
  | reservedOp low => exact Replies_respond .illegalCommand s
  | brd keep n => exact (hbrd keep n rfl).elim
  | dblk => exact (hdblk rfl).elim
  | dstr => exact (hdstr rfl).elim
  | lwr sel idx val =>
    show Replies _ (execLwr sel idx val s)
    simp only [execLwr]
    split
    · exact Replies_illegalOperand s
    · split
      exacts [Replies_illegalOperand s, Replies_answer _ _]
  | lrd sel idx =>
    show Replies _ (execLrd sel idx s)
    simp only [execLrd]
    split
    exacts [Replies_illegalOperand s, Replies_answer _ _]
  | cbld sel =>
    show Replies _ (execCbld sel s)
    simp only [execCbld]
    split
    exacts [Replies_illegalOperand s, Replies_answer _ _]
  | crd sel idx =>
    show Replies _ (execCrd sel idx s)
    simp only [execCrd]
    split
    exacts [Replies_illegalOperand s, Replies_answer _ _]
  | tclr sel =>
    show Replies _ (execTclr sel s)
    simp only [execTclr]
    split
    exacts [Replies_illegalOperand s, Replies_answer _ _]
  | tins sel sym mk =>
    show Replies _ (execTins sel sym mk s)
    simp only [execTins]
    split
    · exact Replies_illegalOperand s
    · split
      · exact Replies_illegalOperand s
      · split
        case h_4 => exact Replies_respond (.treeCapacityExceeded (.inl ⟨_, _, _, rfl⟩)) s
        all_goals exact Replies_answer _ _
  | tbld sel =>
    cases hsel : Config.selOf sel with
    | none =>
      show Replies _ (execTbld sel s)
      simp only [execTbld, selOperand, hsel]
      exact Replies_illegalOperand s
    | some k =>
      rw [exec_tbld hsel]
      cases hbuild : (Tree.build (Config.nodecap k) (s.codes k) 0 Tree.empty).1 with
      | none => exact Replies_respond (.ok 0) _
      | some e =>
        rcases build_error hbuild with rfl | rfl
        · exact Replies_respond (.prefixCodeViolation ⟨_, rfl⟩) _
        · exact Replies_respond (.treeCapacityExceeded (.inr ⟨_, rfl⟩)) _
  | trst sel =>
    show Replies _ (execTrst sel s)
    simp only [execTrst]
    split
    exacts [Replies_illegalOperand s, Replies_answer _ _]
  | tadv sel bit =>
    show Replies _ (execTadv sel bit s)
    simp only [execTadv]
    split
    exacts [Replies_illegalOperand s, Replies_answer _ _]
  | rrd rn =>
    show Replies _ (execRrd rn s)
    simp only [execRrd]
    split
    exacts [Replies_answer _ _, Replies_illegalOperand s]
  | _ => cases hi

/-! ### How a word ends (R282 to R288) -/

/-- How a step ends in `t` that takes a word from the command port, which leaves `s`, and decodes it to `d`. -/
inductive WordEnds (s : State) (d : Except DecodeReject Instr) (t : State) : Prop
  /-- SRST begins a new session (R289). -/
  | restart (hd : d = .ok .srst) (ht : t = (newSession s).respond .ok 0)
  /-- The word answers with the stream as it was; of a block command this is a refusal outside READY. -/
  | unlatched (e : Status) (r : Word) (hsrst : d ≠ .ok .srst)
      (hblocks : s.sstate = .ready → d ≠ .ok .dblk ∧ d ≠ .ok .dstr)
      (hstream : SameStream s t) (hresp : t.resp = some { status := e, result := r }) (hanswer : Unlatched d e r)
  /-- BRD answers its bits (R145). -/
  | read (keep : Bool) (n : BitVec 6) (r : Word) (hd : d = .ok (.brd keep n)) (hs : s.sstate ≠ .faulted)
      (hsession : SameSession s t) (hresp : t.resp = some { status := .ok, result := r })
  /-- BRD latches the end of the input (R147). -/
  | shortRead (keep : Bool) (n : BitVec 6) (u : State) (hd : d = .ok (.brd keep n)) (hs : s.sstate ≠ .faulted)
      (hlatched : ErrorLatched .unexpectedEndOfInput brdPhase u t)
  /-- A block command decodes its blocks, DSTR up to the last one (R236, R237). -/
  | blocks (r : Word) (hd : d = .ok .dblk ∨ d = .ok .dstr) (hs : s.sstate = .ready)
      (hsstate : t.sstate = if t.bhdr.getLsbD 0 then .done else .ready) (hdstr : d = .ok .dstr → t.sstate = .done)
      (hresp : t.resp = some { status := .ok, result := r })
  /-- A block command latches the error of a block (R283). -/
  | blockError (e : Status) (u : State) (hd : d = .ok .dblk ∨ d = .ok .dstr) (hs : s.sstate = .ready)
      (he : StreamError e) (hne : e ≠ .invalidCodeLengthSymbol) (hlatched : ErrorLatched e u.phase.toBits u t)

section
variable {s t : State}

/-- A refusal writes the answer alone. -/
theorem wordEnds_of_refused {d : Except DecodeReject Instr} {e : Status} {r : Word} (hsrst : d ≠ .ok .srst)
    (hblocks : s.sstate = .ready → d ≠ .ok .dblk ∧ d ≠ .ok .dstr) (hanswer : Unlatched d e r) :
    WordEnds s d (s.respond e r) :=
  .unlatched e r hsrst hblocks (SameStream_respond (SameStream_refl s) e r) rfl hanswer

theorem exec_brd_ends {keep : Bool} {n : BitVec 6} (h : exec (.brd keep n) s = .next t) :
    WordEnds s (.ok (.brd keep n)) t := by
  rcases Nat.lt_or_ge 32 n.toNat with hn | hn
  · rw [exec_brd_of_lt keep hn] at h
    cases h
    exact wordEnds_of_refused nofun (fun _ => ⟨nofun, nofun⟩) .illegalOperand
  · by_cases hs : s.sstate = .faulted
    · rw [exec_brd_of_faulted hs keep hn] at h
      cases h
      exact wordEnds_of_refused nofun (fun _ => ⟨nofun, nofun⟩) .sessionFaulted
    · rw [exec_brd_of_not_faulted hs keep hn] at h
      cases hread : readBits n.toNat keep s with
      | ok v u =>
        obtain ⟨-, -, ⟨hsession, -⟩, -⟩ := readBits_ok_frame (by omega) hread
        rw [hread] at h
        cases h
        exact .read keep n _ rfl hs hsession rfl
      | err e u =>
        obtain rfl := readBits_eq_err hread
        rw [hread] at h
        cases h
        exact .shortRead keep n u rfl hs (latch_errorLatched _ _ u)
      | stuck => exact (readBits_ne_stuck _ _ _ hread).elim

/-- In READY the word of a block command ends as its blocks do. -/
theorem finishBlocks_ends {i : Instr} {result : State → Word} {r : Res Unit} (hi : i = .dblk ∨ i = .dstr)
    (hs : s.sstate = .ready) (havoids : r.Avoids .invalidCodeLengthSymbol)
    (hends : r.Ends (fun u => u.sstate = (if u.bhdr.getLsbD 0 then .done else .ready) ∧
      (i = .dstr → u.sstate = .done)) fun _ => True)
    (h : finishBlocks result r = .next t) : WordEnds s (.ok i) t := by
  have hd : (.ok i : Except DecodeReject Instr) = .ok .dblk ∨ (.ok i : Except DecodeReject Instr) = .ok .dstr :=
    hi.imp (congrArg _) (congrArg _)
  cases r with
  | ok _ u =>
    obtain ⟨hsstate, hdstr⟩ := hends
    cases h
    exact .blocks _ hd hs hsstate (fun hdi => hdstr (Except.ok.inj hdi)) rfl
  | err e u =>
    cases h
    exact .blockError e u hd hs hends.1 havoids (blockError_errorLatched e u)
  | stuck => cases h

theorem exec_dblk_ends (h : exec .dblk s = .next t) : WordEnds s (.ok .dblk) t := by
  cases hs : s.sstate with
  | ready =>
    rw [exec_dblk_of_ready hs] at h
    refine finishBlocks_ends (.inl rfl) hs (decodeBlock_avoids s) ?_ h
    refine (decodeBlock_ends s).mono ?_ fun _ _ => trivial
    rintro t ⟨u, rfl, hu⟩
    exact ⟨blockDone_sstate_of_inBlock hs hu, nofun⟩
  | done =>
    rw [(exec_blocks_of_done hs).1] at h
    cases h
    exact wordEnds_of_refused nofun (by rw [hs]; exact nofun) .streamFinished
  | faulted =>
    rw [(exec_blocks_of_faulted hs).1] at h
    cases h
    exact wordEnds_of_refused nofun (by rw [hs]; exact nofun) .sessionFaulted

theorem exec_dstr_ends (h : exec .dstr s = .next t) : WordEnds s (.ok .dstr) t := by
  cases hs : s.sstate with
  | ready =>
    rw [exec_dstr_of_ready hs] at h
    refine finishBlocks_ends (.inr rfl) hs (streamLoop_avoids _ s) ?_ h
    refine (streamLoop_ends _ (.inl hs)).mono ?_ fun _ _ => trivial
    rintro u ⟨hdone, hlast⟩
    exact ⟨by rw [hdone, if_pos hlast], fun _ => hdone⟩
  | done =>
    rw [(exec_blocks_of_done hs).2] at h
    cases h
    exact wordEnds_of_refused nofun (by rw [hs]; exact nofun) .streamFinished
  | faulted =>
    rw [(exec_blocks_of_faulted hs).2] at h
    cases h
    exact wordEnds_of_refused nofun (by rw [hs]; exact nofun) .sessionFaulted

theorem exec_command_ends {i : Instr} {w : Word} (hi : encode i = .command w) (h : exec i s = .next t) :
    WordEnds s (.ok i) t := by
  by_cases hsrst : i = .srst
  · subst hsrst
    cases h
    exact .restart rfl rfl
  by_cases hdblk : i = .dblk
  · subst hdblk
    exact exec_dblk_ends h
  by_cases hdstr : i = .dstr
  · subst hdstr
    exact exec_dstr_ends h
  by_cases hbrd : ∃ keep n, i = .brd keep n
  · obtain ⟨keep, n, rfl⟩ := hbrd
    exact exec_brd_ends h
  have hbrd : ∀ keep n, i ≠ .brd keep n := fun keep n hi => hbrd ⟨keep, n, hi⟩
  have hstream := tableCommand_leads hi hsrst hdblk hdstr hbrd s
  have hreplies := command_replies hi hdblk hdstr hbrd s
  rw [h] at hstream hreplies
  obtain ⟨e, r, hresp, hanswer⟩ := hreplies
  exact .unlatched e r (fun hd => hsrst (Except.ok.inj hd))
    (fun _ => ⟨fun hd => hdblk (Except.ok.inj hd), fun hd => hdstr (Except.ok.inj hd)⟩) hstream hresp hanswer

/-- A word that is no instruction has a reserved bit set (R102, R103). -/
theorem decode_command_eq_error {w : Word} {r : DecodeReject} (h : decode (.command w) = .error r) :
    r = .reservedBits := by
  obtain ⟨row, hrow, hop⟩ := exists_row_of_opcode w
  rw [decode_eq_select hrow hop, select] at h
  split at h <;> cases h
  rfl

/-- Every step that takes a word ends in one of these ways. -/
theorem step_word_ends {w : Word} {rest : List Word} (hs : s.staged = none) (hc : s.cmds = w :: rest)
    (h : step s = .next t) : WordEnds { s with cmds := rest } (decode (.command w)) t := by
  have hnext := nextCode_of_word hs hc
  cases hd : decode (.command w) with
  | ok i =>
    rw [step_of_decode hnext hd] at h
    exact exec_command_ends (encode_eq_of_decode_command hd) h
  | error r =>
    rw [step_of_reject hnext hd] at h
    obtain rfl := decode_command_eq_error hd
    cases h
    exact wordEnds_of_refused nofun (fun _ => ⟨nofun, nofun⟩) .illegalOperand

end

/-! ### The statuses (R284, R290) -/

/-- Settles O36: no way a word ends gives either status, as the symbols of a block come from a tree of its own. -/
theorem codesNeverReturned : Obligations.CodesNeverReturned := by
  unfold Obligations.CodesNeverReturned
  refine ⟨fun s t w rest hs hc hstep => ?_, fun s v hv => clSymbol_of_gt hv s⟩
  cases step_word_ends hs hc hstep with
  | restart hd ht => exact ⟨_, by rw [ht]; rfl, by decide, by decide⟩
  | unlatched e r _ _ _ hresp hanswer =>
    refine ⟨_, hresp, ?_⟩
    cases hanswer <;> exact ⟨nofun, nofun⟩
  | read _ _ _ _ _ _ hresp => exact ⟨_, hresp, nofun, nofun⟩
  | shortRead _ _ _ _ _ hlatched => exact ⟨_, hlatched.answer, nofun, nofun⟩
  | blocks _ _ _ _ _ hresp => exact ⟨_, hresp, nofun, nofun⟩
  | blockError e _ _ _ he hne hlatched =>
    refine ⟨_, hlatched.answer, ?_, hne⟩
    rintro rfl
    exact absurd he (by decide)

/-- Settles O54: of the ways a word ends, those that latch or restart give none of these errors, and no error of a
block is one of them. -/
theorem unlatchedErrorsKeepSession : Obligations.UnlatchedErrorsKeepSession := by
  unfold Obligations.UnlatchedErrorsKeepSession
  intro s t w rest e r hs hc hstep hresp
  cases step_word_ends hs hc hstep with
  | restart hd ht =>
    rw [ht] at hresp
    cases hresp
    rw [hd]
    exact ⟨by simp, nofun, nofun⟩
  | unlatched e' r' _ _ hstream hresp' hanswer =>
    cases hresp'.symm.trans hresp
    obtain ⟨hsession, -⟩ := hstream
    have hzero : e ≠ .ok → r = 0 := fun hne => by
      cases hanswer with
      | ok => exact absurd rfl hne
      | _ => rfl
    refine ⟨fun he => ⟨hsession, hzero ?_⟩, fun _ => ⟨hsession, hzero⟩, fun he => ?_⟩
    · rintro rfl
      exact absurd he (by decide)
    · subst he
      cases hanswer with
      | treeCapacityExceeded h => exact h
  | read _ _ _ hd _ _ hresp' =>
    cases hresp'.symm.trans hresp
    rw [hd]
    exact ⟨by simp, nofun, nofun⟩
  | shortRead _ _ _ hd _ hlatched =>
    cases hlatched.answer.symm.trans hresp
    rw [hd]
    exact ⟨by simp, nofun, nofun⟩
  | blocks _ hd _ _ _ hresp' =>
    cases hresp'.symm.trans hresp
    refine ⟨by simp, ?_, nofun⟩
    rintro ⟨sel, hsel⟩
    rw [hsel] at hd
    exact absurd hd (by simp)
  | blockError e' _ hd _ he _ hlatched =>
    cases hlatched.answer.symm.trans hresp
    refine ⟨?_, ?_, ?_⟩
    · rintro (rfl | rfl | rfl | rfl | rfl) <;> exact absurd he (by decide)
    · rintro ⟨sel, hsel⟩
      rw [hsel] at hd
      exact absurd hd (by simp)
    · rintro rfl
      exact absurd he (by decide)

/-! ### The moves of the session state (R288) -/

section
variable {s t : State} {d : Except DecodeReject Instr}

theorem WordEnds.ready_of_srst (h : WordEnds s (.ok .srst) t) : t.sstate = .ready := by
  cases h with
  | restart _ ht => rw [ht]; rfl
  | unlatched _ _ hsrst => exact absurd rfl hsrst
  | read _ _ _ hd => cases hd
  | shortRead _ _ _ hd => cases hd
  | blocks _ hd => rcases hd with hd | hd <;> cases hd
  | blockError _ _ hd => rcases hd with hd | hd <;> cases hd

theorem WordEnds.of_faulted (h : WordEnds s d t) (hsrst : d ≠ .ok .srst) (hs : s.sstate = .faulted) :
    t.sstate = .faulted ∧ SameStream s t := by
  cases h with
  | restart hd => exact absurd hd hsrst
  | unlatched _ _ _ _ hstream => exact ⟨hstream.1.1.trans hs, hstream⟩
  | read _ _ _ _ hstate => exact absurd hs hstate
  | shortRead _ _ _ _ hstate => exact absurd hs hstate
  | blocks _ _ hready => rw [hs] at hready; cases hready
  | blockError _ _ _ hready => rw [hs] at hready; cases hready

theorem WordEnds.of_done (h : WordEnds s d t) (hsrst : d ≠ .ok .srst) (hs : s.sstate = .done) :
    t.sstate = .done ∨ (t.sstate = .faulted ∧ (∃ keep n, d = .ok (.brd keep n)) ∧
      t.resp = some { status := .unexpectedEndOfInput, result := 0 }) := by
  cases h with
  | restart hd => exact absurd hd hsrst
  | unlatched _ _ _ _ hstream => exact .inl (hstream.1.1.trans hs)
  | read _ _ _ _ _ hsession => exact .inl (hsession.1.trans hs)
  | shortRead keep n _ hd _ hlatched => exact .inr ⟨hlatched.session, ⟨keep, n, hd⟩, hlatched.answer⟩
  | blocks _ _ hready => rw [hs] at hready; cases hready
  | blockError _ _ _ hready => rw [hs] at hready; cases hready

theorem StreamError.ne_ok {e : Status} (h : StreamError e) : e ≠ .ok := by
  rintro rfl
  exact absurd h (by decide)

theorem WordEnds.of_ready (h : WordEnds s d t) (hsrst : d ≠ .ok .srst) (hs : s.sstate = .ready) :
    t.sstate = .ready ∨
    (t.sstate = .done ∧ (d = .ok .dblk ∨ d = .ok .dstr) ∧ t.bhdr.getLsbD 0 = true ∧
      ∃ r, t.resp = some { status := .ok, result := r }) ∨
    (t.sstate = .faulted ∧ ((∃ keep n, d = .ok (.brd keep n)) ∨ d = .ok .dblk ∨ d = .ok .dstr) ∧
      ∃ e, e ≠ .ok ∧ t.errCode = e.code ∧ t.resp = some { status := e, result := 0 }) := by
  cases h with
  | restart hd => exact absurd hd hsrst
  | unlatched _ _ _ _ hstream => exact .inl (hstream.1.1.trans hs)
  | read _ _ _ _ _ hsession => exact .inl (hsession.1.trans hs)
  | shortRead keep n _ hd _ hlatched =>
    exact .inr (.inr ⟨hlatched.session, .inl ⟨keep, n, hd⟩, _, by decide, hlatched.code, hlatched.answer⟩)
  | blocks r hd _ hsstate _ hresp =>
    split at hsstate
    case isTrue hlast => exact .inr (.inl ⟨hsstate, hd, hlast, r, hresp⟩)
    case isFalse => exact .inl hsstate
  | blockError _ _ hd _ he _ hlatched =>
    exact .inr (.inr ⟨hlatched.session, .inr hd, _, he.ne_ok, hlatched.code, hlatched.answer⟩)

/-- A block command in READY decodes its blocks or latches an error; there is no third way (R212, R237). -/
theorem WordEnds.of_block_command (h : WordEnds s d t) (hd : d = .ok .dblk ∨ d = .ok .dstr) (hs : s.sstate = .ready) :
    (t.sstate = (if t.bhdr.getLsbD 0 then .done else .ready) ∧ (d = .ok .dstr → t.sstate = .done) ∧
      ∃ r, t.resp = some { status := .ok, result := r }) ∨
    (t.sstate = .faulted ∧ ∃ e, e ≠ .ok ∧ t.resp = some { status := e, result := 0 }) := by
  cases h with
  | restart hd' => rcases hd with rfl | rfl <;> cases hd'
  | unlatched _ _ _ hblocks => exact absurd hd (not_or.mpr (hblocks hs))
  | read _ _ _ hd' => rcases hd with rfl | rfl <;> cases hd'
  | shortRead _ _ _ hd' => rcases hd with rfl | rfl <;> cases hd'
  | blocks r _ _ hsstate hdstr hresp => exact .inl ⟨hsstate, hdstr, r, hresp⟩
  | blockError e _ _ _ he _ hlatched => exact .inr ⟨hlatched.session, e, he.ne_ok, hlatched.answer⟩

theorem WordEnds.faulted_of_short_read {keep : Bool} {n : BitVec 6} (h : WordEnds s (.ok (.brd keep n)) t)
    (hresp : t.resp = some { status := .unexpectedEndOfInput, result := 0 }) : t.sstate = .faulted := by
  cases h with
  | restart hd => cases hd
  | unlatched _ _ _ _ _ hresp' hanswer =>
    cases hresp'.symm.trans hresp
    cases hanswer
  | read _ _ _ _ _ _ hresp' => cases hresp'.symm.trans hresp
  | shortRead _ _ _ _ _ hlatched => exact hlatched.session
  | blocks _ hd => rcases hd with hd | hd <;> cases hd
  | blockError _ _ hd => rcases hd with hd | hd <;> cases hd

end

/-- Settles O53: a row of the table for each session state the word is taken in, by how the word ends. -/
theorem sessionStateMoves : Obligations.SessionStateMoves := by
  unfold Obligations.SessionStateMoves
  intro s t w rest hs hc hstep
  have hends := step_word_ends hs hc hstep
  generalize decode (.command w) = d at hends
  refine ⟨?_, fun hsrst => ⟨hends.of_faulted hsrst, hends.of_done hsrst, hends.of_ready hsrst⟩,
    fun hready r hresp => ⟨fun hd => ?_, fun hd => ?_⟩, fun hready e he hresp hd => ?_, ?_⟩
  · rintro rfl
    exact hends.ready_of_srst
  · rcases hends.of_block_command (.inl hd) hready with ⟨hsstate, -⟩ | ⟨-, e, he, hresp'⟩
    · exact hsstate
    · cases hresp'.symm.trans hresp
      exact absurd rfl he
  · rcases hends.of_block_command (.inr hd) hready with ⟨-, hdone, -⟩ | ⟨-, e, he, hresp'⟩
    · exact hdone hd
    · cases hresp'.symm.trans hresp
      exact absurd rfl he
  · rcases hends.of_block_command hd hready with ⟨-, -, r, hresp'⟩ | ⟨hfaulted, -⟩
    · cases hresp'.symm.trans hresp
      exact absurd rfl he
    · exact hfaulted
  · rintro keep n rfl
    exact hends.faulted_of_short_read

end Sys2Proof.Machine
end

section
/-! SUPPORT. Reset by SRST, and the fuel of the loops: with more of it than bits are left, a loop's result no longer
depends on it, and the loop ends (R312, R322). -/

namespace Sys2Proof.Machine

/-! ### SRST (R262, R312) -/

/-- SRST starts a new session and answers, whatever the session state. -/
theorem exec_srst (s : State) : exec .srst s = .next ((newSession s).respond .ok 0) := by
  show execSrst s = _
  simp only [execSrst, answer]

/-- Settles O10: a new session is the power-on state but for the ports, and the response sets the answer. -/
theorem srstIsPowerOnReset : Obligations.SrstIsPowerOnReset := by
  unfold Obligations.SrstIsPowerOnReset
  intro s
  rw [exec_srst, newSession, State.respond]

/-! ### Fuel above the bits left (R322) -/

/-- A piece within a bound is not stuck. -/
theorem Within_ne_stuck {α : Type} {n : Nat} {r : Res α} (h : r.Within n) : r ≠ .stuck := by
  rintro rfl
  exact h

/-- Two sequences are the same where their second pieces are, in every state the first goes on to. -/
theorem Res.bind_congr {α β : Type} {r : Res α} {f g : α → State → Res β}
    (h : ∀ a t, r = .ok a t → f a t = g a t) : r.bind f = r.bind g := by
  cases r with
  | ok a t => exact h a t rfl
  | err e t => rfl
  | stuck => rfl

/-- Each round of DecodeSymbol reads a bit (R192). -/
theorem decodeBits_eq_of_bitsLeft_lt (k : Sel) (n m : Nat) {s : State} (hn : s.bitsLeft < n) (hm : s.bitsLeft < m) :
    decodeBits k n s = decodeBits k m s := by
  induction n generalizing m s with
  | zero => omega
  | succ n ih =>
    cases m with
    | zero => omega
    | succ m =>
      refine Res.bind_congr fun b s1 hread => ?_
      have hdrop := readBits_ok_bitsLeft (by omega) hread
      split
      · rfl
      · exact ih m (by rw [setTree_bitsLeft]; omega) (by rw [setTree_bitsLeft]; omega)
      · rfl

/-- Each round of the length loop decodes a symbol (R218). -/
theorem lengthLoop_eq_of_bitsLeft_lt (n m : Nat) {s : State} (hn : s.bitsLeft < n) (hm : s.bitsLeft < m) :
    lengthLoop n s = lengthLoop m s := by
  induction n generalizing m s with
  | zero => omega
  | succ n ih =>
    cases m with
    | zero => omega
    | succ m =>
      simp only [lengthLoop]
      split
      · refine Res.bind_congr fun sym s1 hsym => Res.bind_congr fun _ s2 hcl => ?_
        have hdrop := decodeSymbol_ok_bitsLeft hsym
        have hle := Within_bitsLeft (clSymbol_within _ s1) hcl
        exact ih m (by omega) (by omega)
      · rfl

/-- Each round of the data loop decodes an LL symbol (R226). -/
theorem dataLoop_eq_of_bitsLeft_lt (n m : Nat) {s : State} (hn : s.bitsLeft < n) (hm : s.bitsLeft < m) :
    dataLoop n s = dataLoop m s := by
  induction n generalizing m s with
  | zero => omega
  | succ n ih =>
    cases m with
    | zero => omega
    | succ m =>
      refine Res.bind_congr fun sym s1 hsym => Res.bind_congr fun _ s2 hll => ?_
      have hdrop := decodeSymbol_ok_bitsLeft hsym
      have hle := Within_bitsLeft (llSymbol_within _ s1) hll
      split
      · rfl
      · split
        · exact ih m (by omega) (by omega)
        · refine Res.bind_congr fun dsym s3 hdsym => Res.bind_congr fun _ s4 hdist => ?_
          have hdrop' := decodeSymbol_ok_bitsLeft hdsym
          have hle' := Within_bitsLeft (distSymbol_within _ s3) hdist
          exact ih m (by omega) (by omega)

/-- Settles O49: each loop has a lemma that fuel above the bits left makes no difference, and one that it stays within
the bits left, so that it is not stuck. -/
theorem loopsEndWithoutFuel : Obligations.LoopsEndWithoutFuel := by
  unfold Obligations.LoopsEndWithoutFuel
  intro s fuel h
  have hleast : s.bitsLeft < s.bitsLeft + 1 := Nat.lt_succ_self _
  exact ⟨fun k => ⟨decodeBits_eq_of_bitsLeft_lt k _ _ h hleast, Within_ne_stuck (decodeBits_within k fuel s h).1⟩,
    ⟨lengthLoop_eq_of_bitsLeft_lt _ _ h hleast, Within_ne_stuck (lengthLoop_within fuel s h)⟩,
    ⟨dataLoop_eq_of_bitsLeft_lt _ _ h hleast, Within_ne_stuck (dataLoop_within fuel s h)⟩,
    ⟨streamLoop_eq_of_bitsLeft_lt _ _ h hleast, Within_ne_stuck (streamLoop_within fuel s h)⟩⟩

end Sys2Proof.Machine
end

section
/-! SUPPORT. Two runs of DBLK side by side: a block reads no length array and no tree that it has not written itself, so
what the host left in them never reaches what the block reads, writes out or answers (R238, R319). -/

namespace Sys2Proof.Machine

/-! ### Two states that agree on the stream and on some tables -/

/-- The stream alone: without the tables, the bytes of the window and the answer on the command port. -/
def State.streamOnly (s : State) : State :=
  { s with
    lenCL := State.reset.lenCL, lenLL := State.reset.lenLL, lenDIST := State.reset.lenDIST
    codeCL := State.reset.codeCL, codeLL := State.reset.codeLL, codeDIST := State.reset.codeDIST
    treeCL := Tree.empty, treeLL := Tree.empty, treeDIST := Tree.empty
    win := [], resp := none }

/-- The length arrays, the trees and the bytes of the window alone. -/
def State.lensTreesWindow (s : State) : State :=
  { State.reset with
    lenCL := s.lenCL, lenLL := s.lenLL, lenDIST := s.lenDIST
    treeCL := s.treeCL, treeLL := s.treeLL, treeDIST := s.treeDIST
    win := s.win }

/-- The stream is the same, and so are the length arrays of the alphabets in `L` and the trees of those in `T`: the
tables a block has written so far. -/
structure AgreeOn (L T : Set Sel) (s t : State) : Prop where
  stream : t.streamOnly = s.streamOnly
  window : ∀ i, Memory.read t.win i = Memory.read s.win i
  lens : ∀ k ∈ L, t.lens k = s.lens k
  tree : ∀ k ∈ T, t.tree k = s.tree k

/-- Agreement on no table is agreement on the stream. -/
theorem sameStream_iff_agreeOn {s t : State} : SameStream s t ↔ AgreeOn ∅ ∅ s t := by
  constructor
  · rintro ⟨hsession, hreader, hblock, ⟨hread, hwindow⟩, hcmds⟩
    refine ⟨?_, hread, nofun, nofun⟩
    simp_all [State.streamOnly, SameSession, SameReader, SameBlock]
  · rintro ⟨hstream, hread, -, -⟩
    simp only [State.streamOnly, State.mk.injEq] at hstream
    simp_all [SameStream, SameSession, SameReader, SameBlock, SameWindow]

section
variable {L T : Set Sel} {s t : State}

theorem AgreeOn.forget (h : AgreeOn L T s t) : AgreeOn ∅ ∅ s t := ⟨h.stream, h.window, nofun, nofun⟩

/-- What sees neither the tables, nor the bytes of the window, nor the answer, is the same in both. -/
theorem AgreeOn.eq {α : Type} (h : AgreeOn L T s t) (f : State → α) (hf : f ∘ State.streamOnly = f) : f t = f s :=
  eq_of_without f h.stream hf

/-- An update that neither reads nor writes the tables and the window keeps the agreement. -/
theorem AgreeOn.update (h : AgreeOn L T s t) (u : State → State)
    (hreads : ∀ v, (u v).streamOnly = (u v.streamOnly).streamOnly)
    (hwrites : ∀ v, (u v).lensTreesWindow = v.lensTreesWindow) : AgreeOn L T (u s) (u t) where
  stream := by rw [hreads t, h.stream, ← hreads s]
  window i := by
    have hkept : ∀ v, (u v).win = v.win := fun v => eq_of_without State.win (hwrites v) rfl
    rw [hkept, hkept]
    exact h.window i
  lens k hk := by
    have hkept : ∀ v, (u v).lens k = v.lens k := fun v =>
      eq_of_without (fun v => v.lens k) (hwrites v) (by cases k <;> rfl)
    rw [hkept, hkept]
    exact h.lens k hk
  tree k hk := by
    have hkept : ∀ v, (u v).tree k = v.tree k := fun v =>
      eq_of_without (fun v => v.tree k) (hwrites v) (by cases k <;> rfl)
    rw [hkept, hkept]
    exact h.tree k hk

/-! ### Updates of the tables and the window -/

theorem setLen_lens_same (s : State) (k : Sel) (i : Nat) (v : BitVec 4) : (s.setLen k i v).lens k =
    (s.lens k).set i (match k with | .cl => (v.setWidth 3).toNat | .ll => v.toNat | .dist => v.toNat) := by
  cases k <;> simp [State.setLen, State.lens, List.map_set]

theorem setLen_lens_other (s : State) (k j : Sel) (i : Nat) (v : BitVec 4) (h : j ≠ k) :
    (s.setLen k i v).lens j = s.lens j := by
  cases k <;> cases j <;> simp_all [State.setLen, State.lens]

theorem AgreeOn.setLen (h : AgreeOn L T s t) (k : Sel) (i : Nat) (v : BitVec 4) :
    AgreeOn L T (s.setLen k i v) (t.setLen k i v) where
  stream := by cases k <;> exact h.stream
  window j := by simpa using h.window j
  lens j hj := by
    by_cases hjk : j = k
    · subst hjk
      rw [setLen_lens_same, setLen_lens_same, h.lens j hj]
    · rw [setLen_lens_other _ _ _ _ _ hjk, setLen_lens_other _ _ _ _ _ hjk, h.lens j hj]
  tree j hj := by simpa using h.tree j hj

/-- A cleared array is the same whatever it held. -/
theorem clearLens_lens_same (s t : State) (k : Sel) : (t.clearLens k).lens k = (s.clearLens k).lens k := by
  cases k <;> rfl

theorem clearLens_lens_other (s : State) (k j : Sel) (h : j ≠ k) : (s.clearLens k).lens j = s.lens j := by
  cases k <;> cases j <;> simp_all [State.clearLens, State.lens]

theorem AgreeOn.clearLens (h : AgreeOn L T s t) (k : Sel) :
    AgreeOn (insert k L) T (s.clearLens k) (t.clearLens k) where
  stream := by cases k <;> exact h.stream
  window j := by simpa using h.window j
  lens j hj := by
    by_cases hjk : j = k
    · subst hjk
      exact clearLens_lens_same s t j
    · rw [clearLens_lens_other _ _ _ hjk, clearLens_lens_other _ _ _ hjk]
      exact h.lens j (hj.resolve_left hjk)
  tree j hj := by simpa using h.tree j hj

theorem AgreeOn.buildCodes (h : AgreeOn L T s t) (k : Sel) : AgreeOn L T (s.buildCodes k) (t.buildCodes k) where
  stream := by cases k <;> exact h.stream
  window j := by simpa using h.window j
  lens j hj := by simpa using h.lens j hj
  tree j hj := by simpa using h.tree j hj

/-- A tree that is replaced is the same whatever it was. -/
theorem AgreeOn.setTree (h : AgreeOn L T s t) (k : Sel) (u : Tree) :
    AgreeOn L (insert k T) (s.setTree k u) (t.setTree k u) where
  stream := by cases k <;> exact h.stream
  window j := by simpa using h.window j
  lens j hj := by simpa using h.lens j hj
  tree j hj := by
    by_cases hjk : j = k
    · subst hjk
      rw [setTree_tree_same, setTree_tree_same]
    · rw [setTree_tree_other _ _ _ _ hjk, setTree_tree_other _ _ _ _ hjk]
      exact h.tree j (hj.resolve_left hjk)

theorem AgreeOn.setTree_of_mem (h : AgreeOn L T s t) {k : Sel} (hk : k ∈ T) (u : Tree) :
    AgreeOn L T (s.setTree k u) (t.setTree k u) := by
  simpa [hk] using h.setTree k u

theorem AgreeOn.append (h : AgreeOn L T s t) (b : Byte) : AgreeOn L T (s.append b) (t.append b) where
  stream := congrArg (fun v => (v.append b).streamOnly) h.stream
  window i := by
    have hwptr := h.eq State.wptr rfl
    show Memory.read (Memory.write t.win t.wptr.toNat b) i = Memory.read (Memory.write s.win s.wptr.toNat b) i
    rw [hwptr]
    by_cases hi : i = s.wptr.toNat
    · rw [hi, read_write_same, read_write_same]
    · rw [read_write_other _ _ _ _ hi, read_write_other _ _ _ _ hi, h.window i]
  lens k hk := by simpa using h.lens k hk
  tree k hk := by simpa using h.tree k hk

/-- A copy reads the window at the same indices in both. -/
theorem AgreeOn.copyBytes (h : AgreeOn L T s t) (dist n : Nat) :
    AgreeOn L T (copyBytes dist n s) (copyBytes dist n t) := by
  induction n generalizing s t with
  | zero => exact h
  | succ n ih =>
    have hbehind : t.behind dist = s.behind dist := h.eq (fun v => v.behind dist) rfl
    rw [Machine.copyBytes, Machine.copyBytes, hbehind, h.window]
    exact ih (h.append _)

theorem AgreeOn.putLength (h : AgreeOn L T s t) (v : BitVec 4) : AgreeOn L T (putLength v s) (putLength v t) := by
  have hloc := h.eq State.loc rfl
  have hcount : ∀ {s t : State}, AgreeOn L T s t →
      AgreeOn L T (s.setLoc { s.loc with k := s.loc.k + 1 }) (t.setLoc { t.loc with k := t.loc.k + 1 }) := fun h =>
    h.update (fun s => s.setLoc { s.loc with k := s.loc.k + 1 }) (fun _ => rfl) fun _ => rfl
  simp only [Machine.putLength, hloc]
  split <;> exact hcount (h.setLen _ _ _)

theorem AgreeOn.putLengths (h : AgreeOn L T s t) (v : BitVec 4) (n : Nat) :
    AgreeOn L T (putLengths v n s) (putLengths v n t) := by
  induction n generalizing s t with
  | zero => exact h
  | succ n ih => exact ih (h.putLength v)

theorem AgreeOn.setLastLength (h : AgreeOn L T s t) (v : BitVec 4) :
    AgreeOn L T (setLastLength v s) (setLastLength v t) :=
  h.update (Machine.setLastLength v) (fun _ => rfl) fun _ => rfl

end

/-! ### Two runs of a piece -/

/-- Two runs of a piece end alike: both go on with one value, in related states; or both raise one error, in states with
the same stream; or both are stuck. -/
inductive Res.Paired {α : Type} (R : State → State → Prop) : Res α → Res α → Prop where
  | ok (a : α) {s t : State} (h : R s t) : Res.Paired R (.ok a s) (.ok a t)
  | err (e : Status) {s t : State} (h : AgreeOn ∅ ∅ s t) : Res.Paired R (.err e s) (.err e t)
  | stuck : Res.Paired R .stuck .stuck

theorem Res.Paired.bind {α β : Type} {R R' : State → State → Prop} {r r' : Res α} {f g : α → State → Res β}
    (hr : r.Paired R r') (hfg : ∀ a s t, R s t → (f a s).Paired R' (g a t)) : (r.bind f).Paired R' (r'.bind g) := by
  cases hr with
  | ok a h => exact hfg a _ _ h
  | err e h => exact .err e h
  | stuck => exact .stuck

section
variable {L T : Set Sel} {s t : State}

/-! ### Symbols -/

theorem readBits_paired (n : Nat) (h : AgreeOn L T s t) :
    (readBits n false s).Paired (AgreeOn L T) (readBits n false t) := by
  have htop : topUp n t.input t.brAcc t.brCnt = topUp n s.input s.brAcc s.brCnt :=
    h.eq (fun v => topUp n v.input v.brAcc v.brCnt) rfl
  have hfetched : AgreeOn L T (s.toppedUp n) (t.toppedUp n) :=
    h.update (fun v => v.toppedUp n) (fun _ => rfl) fun _ => rfl
  simp only [State.toppedUp, htop] at hfetched
  simp only [readBits, htop]
  split
  · exact .ok _ (hfetched.update (fun v => v.consume n) (fun _ => rfl) fun _ => rfl)
  · exact .err _ hfetched.forget

theorem decodeBits_paired {k : Sel} (hk : k ∈ T) (fuel : Nat) (h : AgreeOn L T s t) :
    (decodeBits k fuel s).Paired (AgreeOn L T) (decodeBits k fuel t) := by
  induction fuel generalizing s t with
  | zero => exact .stuck
  | succ fuel ih =>
    refine (readBits_paired 1 h).bind fun b s1 t1 h1 => ?_
    rw [h1.tree k hk]
    rcases (s1.tree k).advance (b == 1) with ⟨r, u⟩
    have hmoved := h1.setTree_of_mem hk u
    cases r with
    | symbol sym => exact .ok sym hmoved
    | pending => exact ih hmoved
    | invalid => exact .err _ hmoved.forget

/-- DecodeSymbol begins at the root and reads one tree, so only that tree has to agree (R192). -/
theorem decodeSymbol_paired {k : Sel} (hk : k ∈ T) (h : AgreeOn L T s t) :
    (decodeSymbol k s).Paired (AgreeOn L T) (decodeSymbol k t) := by
  have hleft : t.bitsLeft = s.bitsLeft := h.eq State.bitsLeft rfl
  rw [decodeSymbol, decodeSymbol, hleft, h.tree k hk]
  exact decodeBits_paired hk _ (h.setTree_of_mem hk _)

theorem repeatLast_paired (n : Nat) (h : AgreeOn L T s t) :
    (repeatLast n s).Paired (AgreeOn L T) (repeatLast n t) := by
  have hloc := h.eq State.loc rfl
  simp only [repeatLast, hloc]
  split
  · exact .err _ h.forget
  · exact .ok () (h.putLengths _ _)

theorem repeatZero_paired (e base : Nat) (h : AgreeOn L T s t) :
    (repeatZero e base s).Paired (AgreeOn L T) (repeatZero e base t) :=
  (readBits_paired e h).bind fun _ _ _ h1 => repeatLast_paired _ (h1.setLastLength 0)

theorem clSymbol_paired (v : Nat) (h : AgreeOn L T s t) : (clSymbol v s).Paired (AgreeOn L T) (clSymbol v t) := by
  simp only [clSymbol]
  split
  · exact .ok () ((h.putLength _).setLastLength _)
  · split
    · exact (readBits_paired 2 h).bind fun _ _ _ h1 => repeatLast_paired _ h1
    · split
      · exact repeatZero_paired 3 3 h
      · split
        · exact repeatZero_paired 7 11 h
        · exact .err _ h.forget

theorem llSymbol_paired (v : Nat) (h : AgreeOn L T s t) : (llSymbol v s).Paired (AgreeOn L T) (llSymbol v t) := by
  simp only [llSymbol]
  split
  · exact .ok () (h.append _)
  · split
    · exact .ok () (h.update State.blockDone (fun _ => rfl) fun _ => rfl)
    · split
      · exact (readBits_paired _ h).bind fun x _ _ h1 =>
          .ok () (h1.update (fun v => v.setLoc { v.loc with length := _ + x }) (fun _ => rfl) fun _ => rfl)
      · exact .err _ h.forget

theorem distSymbol_paired (v : Nat) (h : AgreeOn L T s t) :
    (distSymbol v s).Paired (AgreeOn L T) (distSymbol v t) := by
  simp only [distSymbol]
  split
  · refine (readBits_paired _ h).bind fun x s1 t1 h1 => ?_
    rw [h1.eq State.wfill rfl, h1.eq State.loc rfl]
    split
    · exact .err _ h1.forget
    · exact .ok () (h1.copyBytes _ _)
  · exact .err _ h.forget

/-! ### The pieces of a block -/

theorem AgreeOn.setPhase (h : AgreeOn L T s t) (p : Phase) : AgreeOn L T (s.setPhase p) (t.setPhase p) :=
  h.update (fun v => v.setPhase p) (fun _ => rfl) fun _ => rfl

theorem AgreeOn.setBhdr (h : AgreeOn L T s t) (lo n v : Nat) : AgreeOn L T (s.setBhdr lo n v) (t.setBhdr lo n v) :=
  h.update (fun u => u.setBhdr lo n v) (fun _ => rfl) fun _ => rfl

theorem readHeader_paired (h : AgreeOn L T s t) : (readHeader s).Paired (AgreeOn L T) (readHeader t) := by
  have hstart := (h.update (fun v => v.setLoc Locals.idle) (fun _ => rfl) fun _ => rfl).setPhase .readBlockHeader
  refine (readBits_paired 1 hstart).bind fun bfinal s1 t1 h1 => ?_
  refine (readBits_paired 2 (h1.setBhdr 0 1 bfinal)).bind fun btype s2 t2 h2 => ?_
  exact .ok btype (h2.setBhdr 1 2 btype)

theorem blockType_paired (v : Nat) (h : AgreeOn L T s t) :
    (blockType v s).Paired (AgreeOn L T) (blockType v t) := by
  simp only [blockType]
  split
  · refine (readBits_paired 5 (h.setPhase _)).bind fun hlit s1 t1 h1 => ?_
    refine (readBits_paired 5 (h1.setBhdr 3 5 hlit)).bind fun hdist s2 t2 h2 => ?_
    refine (readBits_paired 4 (h2.setBhdr 8 5 hdist)).bind fun hclen s3 t3 h3 => ?_
    exact .ok () ((h3.setBhdr 13 4 hclen).update
      (fun u => u.setLoc { u.loc with numLL := hlit + 257, numDist := hdist + 1, numCL := hclen + 4 })
      (fun _ => rfl) fun _ => rfl)
  · exact .err _ h.forget

theorem readClLengths_paired (syms : List Nat) (h : AgreeOn L T s t) :
    (readClLengths syms s).Paired (AgreeOn L T) (readClLengths syms t) := by
  induction syms generalizing s t with
  | nil => exact .ok () h
  | cons sym rest ih => exact (readBits_paired 3 h).bind fun _ _ _ h1 => ih (h1.setLen .cl sym _)

/-- ReadCodeLengthAlphabet clears LEN[CL] before it writes it, so nothing of the array has to agree (R216). -/
theorem readClAlphabet_paired (h : AgreeOn L T s t) :
    (readClAlphabet s).Paired (AgreeOn (insert .cl L) T) (readClAlphabet t) := by
  rw [readClAlphabet, readClAlphabet, h.eq State.loc rfl]
  exact readClLengths_paired _ (h.clearLens .cl)

/-- Codes and tree are built from the lengths alone, so the tree agrees where the lengths do (R165, R187). -/
theorem buildTree_paired {k : Sel} (hk : k ∈ L) (h : AgreeOn L T s t) :
    (buildTree k (s.buildCodes k)).Paired (AgreeOn L (insert k T)) (buildTree k (t.buildCodes k)) := by
  have hset := fun u => (h.buildCodes k).setTree k u
  simp only [buildTree, buildCodes_codes, h.lens k hk]
  split
  · exact .ok () (hset _)
  · exact .err _ (hset _).forget

theorem lengthLoop_paired (hcl : .cl ∈ T) (fuel : Nat) (h : AgreeOn L T s t) :
    (lengthLoop fuel s).Paired (AgreeOn L T) (lengthLoop fuel t) := by
  induction fuel generalizing s t with
  | zero => exact .stuck
  | succ fuel ih =>
    simp only [lengthLoop, h.eq State.loc rfl]
    split
    · refine (decodeSymbol_paired hcl h).bind fun sym s1 t1 h1 => ?_
      exact (clSymbol_paired _ h1).bind fun _ _ _ h2 => ih h2
    · exact .ok () h

/-- DecodeLLAndDistLengths clears both arrays before it writes them, so only the CL tree has to agree (R218). -/
theorem decodeLengths_paired (hcl : .cl ∈ T) (h : AgreeOn L T s t) :
    (decodeLengths s).Paired (AgreeOn (insert .dist (insert .ll L)) T) (decodeLengths t) := by
  have hstart : AgreeOn (insert .dist (insert .ll L)) T (startLengths s) (startLengths t) :=
    (((h.setPhase .decodeLLAndDistLengths).clearLens .ll).clearLens .dist).update
      (fun v => v.setLoc { v.loc with k := 0, lastLength := 0 }) (fun _ => rfl) fun _ => rfl
  rw [decodeLengths, decodeLengths, h.eq State.bitsLeft rfl]
  exact lengthLoop_paired hcl _ hstart

theorem buildDataTrees_paired (hll : .ll ∈ L) (hdist : .dist ∈ L) (h : AgreeOn L T s t) :
    (buildDataTrees s).Paired (AgreeOn L (insert .dist (insert .ll T))) (buildDataTrees t) :=
  (buildTree_paired hll (h.setPhase _)).bind fun _ _ _ h1 => buildTree_paired hdist h1

theorem dataLoop_paired (hll : .ll ∈ T) (hdist : .dist ∈ T) (fuel : Nat) (h : AgreeOn L T s t) :
    (dataLoop fuel s).Paired (AgreeOn L T) (dataLoop fuel t) := by
  induction fuel generalizing s t with
  | zero => exact .stuck
  | succ fuel ih =>
    refine (decodeSymbol_paired hll h).bind fun sym s1 t1 h1 => ?_
    refine (llSymbol_paired _ h1).bind fun _ s2 t2 h2 => ?_
    split
    · exact .ok () h2
    · split
      · exact ih h2
      · refine (decodeSymbol_paired hdist h2).bind fun dsym s3 t3 h3 => ?_
        exact (distSymbol_paired _ h3).bind fun _ _ _ h4 => ih h4

/-! ### A block (R211, R212, R238) -/

/-- Each piece of a block reads only tables that the pieces before it wrote, so two blocks from states with the same
stream run alike, and where they complete, every length array and every tree agrees. -/
theorem decodeBlock_paired (h : AgreeOn ∅ ∅ s t) :
    (decodeBlock s).Paired (AgreeOn {.dist, .ll, .cl} {.dist, .ll, .cl}) (decodeBlock t) := by
  refine (readHeader_paired h).bind fun btype s1 t1 h1 => ?_
  refine (blockType_paired btype h1).bind fun _ s2 t2 h2 => ?_
  refine (readClAlphabet_paired h2).bind fun _ s3 t3 h3 => ?_
  refine (buildTree_paired (by simp) (h3.setPhase .buildClTree)).bind fun _ s4 t4 h4 => ?_
  refine (decodeLengths_paired (by simp) h4).bind fun _ s5 t5 h5 => ?_
  refine (buildDataTrees_paired (by simp) (by simp) h5).bind fun _ s6 t6 h6 => ?_
  rw [decodeData, decodeData, h6.eq State.bitsLeft rfl]
  simpa using dataLoop_paired (by simp) (by simp) _ (h6.setPhase .decodeSymbols)

/-- Two blocks that run alike end the command with the same answer over the same stream (R212, R283). -/
theorem finishBlocks_of_paired {result : State → Word} {r r' : Res Unit} (hr : r.Paired (AgreeOn L T) r')
    (hresult : ∀ s t, AgreeOn L T s t → result t = result s) (hstuck : r ≠ .stuck) :
    ∃ u u', finishBlocks result r = .next u ∧ finishBlocks result r' = .next u' ∧ SameStream u u' ∧
      u'.resp = u.resp := by
  cases hr with
  | @ok _ s t h =>
    refine ⟨_, (t.setLoc Locals.idle).respond .ok (result s), rfl, ?_, sameStream_iff_agreeOn.mpr ?_, rfl⟩
    · simp only [finishBlocks, answer, hresult s t h]
    · exact h.forget.update (fun v => (v.setLoc Locals.idle).respond .ok (result s)) (fun _ => rfl) fun _ => rfl
  | err e h =>
    exact ⟨_, _, rfl, rfl, sameStream_iff_agreeOn.mpr (h.update (blockError e) (fun _ => rfl) fun _ => rfl), rfl⟩
  | stuck => exact absurd rfl hstuck

end

/-- Settles O51: the two blocks run alike by `decodeBlock_paired`, and the result word is BHDR, which is no table. -/
theorem dblkIgnoresHostTables : Obligations.DblkIgnoresHostTables := by
  unfold Obligations.DblkIgnoresHostTables
  intro s s' hs h
  have hs' : s'.sstate = .ready := h.1.1.trans hs
  rw [exec_dblk_of_ready hs, exec_dblk_of_ready hs']
  exact finishBlocks_of_paired (decodeBlock_paired (sameStream_iff_agreeOn.mp h))
    (fun _ _ h => congrArg _ (h.eq State.bhdr rfl)) (Within_ne_stuck (decodeBlock_within s))

end Sys2Proof.Machine
end
